-- ==== Sys2Proof/Word.lean ====
section
/-!
DEFINITION. The bit vectors the manual treats as bits (R2, R46, R171, R172).
-/

namespace Sys2Proof

/-- One byte of a frame or of a slot. -/
abbrev Byte := BitVec 8

/-- A stop-control set of one division: bit i is stop control i (R171). -/
abbrev StopSet := BitVec 48

/-- A division set such as a scope: bit d is division d (R171). -/
abbrev DivisionSet := BitVec 8

/-- A set of fault kinds: bit f is the kind of code f (R171, Table 12-1). -/
abbrev FaultSet := BitVec 16

/-- The 62 content bytes of a slot, byte i in bits 8 i to 8 i + 7 (R174). -/
abbrev Content := BitVec 496

/-- The 64 bytes of a slot, the check in the last two (R46, R174). -/
abbrev SlotImage := BitVec 512

/-- An era of the era circle, arithmetic modulo 65536 (R2, R3). -/
abbrev Era := BitVec 16

/-- One stop-control set for each division, division 0 first. -/
abbrev Sets := List StopSet

end Sys2Proof
end

