-- ==== Sys2Proof/Config.lean ====
section
/-!
DEFINITION. The fixed figures of the part: what the manual gives every 4620, whatever its configuration.
-/

namespace Sys2Proof.Config

/-- Slots of the combination memory (R46). -/
def slotCount : Nat := 16384

/-- Bytes of a slot (R46). -/
def slotBytes : Nat := 64

/-- What a byte of the array reads as that nothing has written: DESIGN CHOICE, unsafe (log entry 2). -/
def unlistedByte : Byte := 0#8

/-- Entries of the write queue (R56). -/
def writeQueueEntries : Nat := 32

/-- Console lines of the line table (R119). -/
def lineCount : Nat := 384

/-- Equal samples that qualify a fixed line (R130, R131). -/
def fixedLineRun : Nat := 6

/-- Records of the Peer Table (R147). -/
def peerRecords : Nat := 14

/-- Entry threshold of Low1 in millivolts (R156). -/
def low1Entry : Nat := 10500

/-- Release threshold of Low1 in millivolts (R156). -/
def low1Release : Nat := 11000

/-- Entry threshold of Low2 in millivolts (R156). -/
def low2Entry : Nat := 9000

/-- Release threshold of Low2 in millivolts (R156). -/
def low2Release : Nat := 9500

/-- The idle timer is idle-ready from this many ms (R62). -/
def idleReadyMs : Nat := 2000

/-- Age in ms at which a Present record becomes Silent (R149). -/
def silentMs : Nat := 750

/-- Age in ms at which a Silent record becomes Absent (R149). -/
def absentMs : Nat := 2000

/-- Length of the join window in ms (R153). -/
def joinMs : Nat := 1000

/-- Start-flag heartbeats of a run (R146). -/
def startFlagHeartbeats : Nat := 4

/-- Heartbeat periods between two scheduled crescendo repeats (R96). -/
def repeatPeriods : Nat := 8

/-- Phase errors since the last index edge that hold the stage (R82). -/
def phaseErrorLimit : Nat := 4

/-- Greatest count at which an index edge shows no drift (R83). -/
def driftLimit : Nat := 16

/-- Greatest encoder count (R79). -/
def maxCount : Nat := 4095

/-- The slot of the tutti record (R53). -/
def tuttiSlot : Nat := 16383

/-- The slot of the protection flags (R48). -/
def protectionSlot : Nat := 28

/-- The slot of the last registration (R48). -/
def lastRegistrationSlot : Nat := 29

/-- Pulses that may fail before a record is Stuck, less one (R110). -/
def maxRetry : Nat := 2

/-- Longest payload of a frame (R134). -/
def maxPayload : Nat := 72

/-- Released bit times after which the line is idle (R133). -/
def idleBitTimes : Nat := 12

end Sys2Proof.Config
end

