-- ==== Sys2Proof/Syntax.lean ====
section
/-!
DEFINITION. The frames of the organ link and the commands of the station: Instr has one constructor for each row of
spec/opcode_table.json, with the operands the outside world gives it.
-/

namespace Sys2Proof

/-- A stamp: era 0 means unset (R2). -/
structure Stamp where
  era : Era
  origin : Nat
  deriving DecidableEq, Repr

/-- The eleven fault kinds (R158, Table 12-1). -/
inductive FaultKind where
  | stopStuck | encoder | memoryCheck | memoryWrite | supplyLow1 | supplyLow2
  | linkClash | linkQuality | peerTableFull | peerLost | config
  deriving DecidableEq, Repr

/-- The cause of a start (R166). -/
inductive StartCause where
  | powerOn | restartLine | restartFrame
  deriving DecidableEq, Repr

/-- The states a heartbeat can name (R173). -/
inductive ReportedState where
  | joining | awake | dormant | unconfigured | service
  deriving DecidableEq, Repr

/-- The results of a service reply (R173). -/
inductive ReplyResult where
  | done | failed | queueFull | outOfRange | notInService | taken | refused | content | failedCheck
  deriving DecidableEq, Repr

/-- The content of a crescendo frame and of a crescendo repeat (R173). -/
structure CrescendoContent where
  program : Nat
  stage : Nat
  tutti : Bool
  additions : Sets
  deriving DecidableEq, Repr

/-- The content of a heartbeat (R146, R173); progress is present in a heartbeat of length 10. -/
structure HeartbeatContent where
  kind : Nat
  state : ReportedState
  startFlag : Bool
  cause : StartCause
  sequence : Nat
  summary : FaultSet
  progress : Option (Nat × Nat)
  deriving DecidableEq, Repr

/-- The frames of the organ link, one constructor for each kind of Table 12-2. -/
inductive Frame where
  | registrationChange (division : Nat) (stamp : Stamp) (drawn : StopSet)
  | crescendo (content : CrescendoContent)
  | heartbeat (content : HeartbeatContent)
  | registrationRefresh (division : Nat) (stamp : Stamp) (drawn : StopSet)
  | crescendoRepeat (content : CrescendoContent)
  | faultNotice (kind : FaultKind)
  | serviceReply (request : Nat) (slot : Nat) (result : ReplyResult) (content : Option Content)
  | configurationRead (target : Nat) (slot : Nat)
  | configurationWrite (target : Nat) (slot : Nat) (content : Content)
  | slotWrite (target : Nat) (slot : Nat) (content : Content)
  | memoryClear (target : Nat)
  | restart (target : Nat)
  deriving DecidableEq, Repr

/-- A piston by name, without its level (R42). -/
inductive Piston where
  | general (g : Nat)
  | divisional (d n : Nat)
  deriving DecidableEq, Repr

/-- The lamps that give lamp answers (R44, R71). -/
inductive Lamp where
  | piston (p : Piston)
  | set
  | sequencerEnd
  deriving DecidableEq, Repr

/-- How a frame on the line broke its framing before it was whole (R134). -/
inductive FramingFault where
  | stopBitDriven
  | idleTooEarly
  deriving DecidableEq, Repr

/-- What a loss of power leaves in the slot whose write it cut short (R46): the old content, the new content, or content
whose check fails, given by its content and by the exclusive-or of its check with the right one. -/
inductive TornWrite where
  | old
  | new
  | failing (content : Content) (checkError : BitVec 16)
  deriving DecidableEq, Repr

/-- The commands. A command of a console line names the line whose qualified change it completes. -/
inductive Instr where
  | powerOn (millivolts : Nat)
  | lossOfPower (torn : TornWrite)
  | configurationCheck (contacts : BitVec 384)
  | restartLinePress
  | startAfterRestarting
  | stopSenseChange (line : Nat) (drawn : Bool)
  | generalPiston (line : Nat)
  | divisionalPiston (line : Nat)
  | setPress (line : Nat)
  | setRelease (line : Nat)
  | generalCancel (line : Nat)
  | divisionCancelPress (line : Nat)
  | divisionCancelRelease (line : Nat)
  | levelUp (line : Nat)
  | levelDown (line : Nat)
  | protect (line : Nat)
  | sequencerNext (line : Nat)
  | sequencerPrevious (line : Nat)
  | tutti (line : Nat)
  | crescendoProgram (line : Nat)
  | crescendoSet (line : Nat)
  | lineRelease (line : Nat)
  | consoleKey (line : Nat) (active : Bool)
  | faultAcknowledge (line : Nat)
  | encoderHandover (a b : Bool)
  | indexEdge
  | low1Entry (millivolts : Nat)
  | low1Release (millivolts : Nat)
  | low2Entry (millivolts : Nat)
  | low2Release (millivolts : Nat)
  | pulseEnd (d i : Nat)
  | settleEnd (d i : Nat)
  | writeReadback (found : Option SlotImage)
  | idleReady
  | retentionRefreshWrite
  | heartbeatPeriod
  | joinEnd
  | peerSilent (record : Nat)
  | peerAbsent (record : Nat)
  | registrationChange (origin : Nat) (division : Nat) (stamp : Stamp) (drawn : StopSet)
  | registrationRefresh (origin : Nat) (division : Nat) (stamp : Stamp) (drawn : StopSet)
  | crescendo (origin : Nat) (content : CrescendoContent)
  | crescendoRepeatReceived (origin : Nat) (content : CrescendoContent)
  | heartbeat (origin : Nat) (content : HeartbeatContent)
  | faultNoticeReceived (origin : Nat) (kind : FaultKind)
  | serviceReplyReceived (origin : Nat) (request : Nat) (slot : Nat) (result : ReplyResult) (content : Option Content)
  | configurationRead (origin : Nat) (target : Nat) (slot : Nat)
  | configurationWrite (origin : Nat) (target : Nat) (slot : Nat) (content : Content)
  | slotWrite (origin : Nat) (target : Nat) (slot : Nat) (content : Content)
  | memoryClear (origin : Nat) (target : Nat)
  | restart (origin : Nat) (target : Nat)
  | numberClash
  | frameDiscarded (framing : Option FramingFault) (bytes : List Byte)
  | lineIdle
  | lineBusy
  | sendBegin (slot : Nat)
  | sendComplete
  | sendAbort
  | lampAnswerEnd (lamp : Lamp)
  | groupSample (group : Nat) (contacts : Byte)
  | fixedLineSample (restart strap : Bool)
  deriving DecidableEq, Repr

end Sys2Proof
end

