-- ==== Sys2Proof/Decode.lean ====
section
/-!
DEFINITION. The command a word spells by the bits of the table. No row of spec/opcode_table.json gives bits, so no word spells a
command.
-/

namespace Sys2Proof

/-- The command of a word of nbits bits: none, since the table gives no row any bits. -/
def decodeTableWord (nbits w : Nat) : Option Instr :=
  match nbits, w with
  | _, _ => none

end Sys2Proof
end

