-- ==== Sys2Proof/Machine/State.lean ====
section
/-!
DEFINITION. The state of the station as plain data, grouped by the blocks of 00_scope.md section 3, its value after reset,
the reasons a step can stop, and one named update for each field.
-/

namespace Sys2Proof.Machine

/-- The seven station states and power off (R165). -/
inductive Station where
  | off | start | unconfigured | service | joining | awake | dormant | restarting
  deriving DecidableEq, Repr

/-- The two link rates (R133). -/
inductive Rate where
  | k125 | k250
  deriving DecidableEq, Repr

/-- The power-return policies (R154). -/
inductive Policy where
  | cancel | last | general | keep
  deriving DecidableEq, Repr

/-- The line functions of Table 7-1 (R123). -/
inductive LineFunction where
  | unused
  | stopSense (d i : Nat)
  | generalPiston (g : Nat)
  | divisionalPiston (d n : Nat)
  | set
  | generalCancel
  | divisionCancel (d : Nat)
  | levelUp | levelDown
  | sequencerNext | sequencerPrevious
  | tutti | crescendoProgram | crescendoSet
  | protect | protectOverride
  | consoleKey | faultAcknowledge
  | encoderA | encoderB | encoderIndex
  deriving DecidableEq, Repr

/-- The qualification modes (R120). -/
inductive QualificationMode where
  | direct | three | six
  deriving DecidableEq, Repr

/-- One entry of the line table (R120). -/
structure LineEntry where
  function : LineFunction
  inverted : Bool
  mode : QualificationMode
  deriving DecidableEq, Repr

/-- The layout quantities of configuration slot 1; the lists have one entry for each division (R175). -/
structure Layout where
  divisions : Nat
  controls : List Nat
  divisionals : List Nat
  generals : Nat
  levels : Nat
  steps : Nat
  stages : Nat
  deriving DecidableEq, Repr

/-- The bases of the partition (R49). -/
structure Partition where
  levelBase : Nat
  levelTop : Nat
  seqBase : Nat
  cresBase : Nat
  deriving DecidableEq, Repr

/-- The three route sets of configuration slot 3 (R159). -/
structure Routes where
  lamp : FaultSet
  notice : FaultSet
  line : FaultSet
  deriving DecidableEq, Repr

/-- The configuration copy: the figures of slots 0 to 27, 30 and 31 as read at start (R166, R175). -/
structure Configuration where
  number : Nat
  rate : Rate
  layout : Layout
  budget : Nat
  pulse : Nat
  settle : Nat
  closed : Nat
  opened : Nat
  bow : Int
  hysteresis : Nat
  routes : Routes
  policy : Policy
  periods : List Nat
  table : List LineEntry
  scope : DivisionSet
  returnGeneral : Nat
  sensed : Sets
  deriving DecidableEq, Repr

/-- The figures that stand where no configuration is held: no divisions, no lines, fixed routes (R159). -/
def noConfiguration : Configuration where
  number := 1
  rate := .k125
  layout := { divisions := 0, controls := [], divisionals := [], generals := 0, levels := 0, steps := 0, stages := 0 }
  budget := 0
  pulse := 0
  settle := 0
  closed := 0
  opened := 0
  bow := 0
  hysteresis := 0
  routes := { lamp := 0x07FF#16, notice := 0#16, line := 0x07FF#16 }
  policy := .keep
  periods := []
  table := []
  scope := 0#8
  returnGeneral := 0
  sensed := []

/-- What the Start Controller holds beside the station state and the copy (R146, R153, R166, R170). -/
structure StartController where
  cause : StartCause
  joinMs : Nat
  heartbeatMs : Nat
  sequence : Nat
  flagsLeft : Nat
  drained : Bool
  noCoil : Bool
  deriving DecidableEq, Repr

/-- A line of the table: its qualified state and its run count (R121). -/
structure LineState where
  qualified : Bool
  run : Nat
  deriving DecidableEq, Repr

/-- A fixed line: no qualified state before its first samples after a start, the level of the present run, its count
(R130, R131). -/
structure FixedLine where
  qualified : Option Bool
  level : Bool
  run : Nat
  deriving DecidableEq, Repr

/-- The Line Scanner (R121, R130, R131). -/
structure Scanner where
  lines : List LineState
  restart : FixedLine
  strap : FixedLine
  deriving DecidableEq, Repr

/-- One division of the Registration Image (R1, R2). -/
structure Division where
  drawn : StopSet
  stamp : Stamp
  deriving DecidableEq, Repr

/-- A piston record: a scope and one set for each division (R54). -/
structure Record where
  scope : DivisionSet
  sets : Sets
  deriving DecidableEq, Repr

/-- The Recall Unit (R20); the exclusion set is read from the cancel counts. -/
structure RecallUnit where
  level : Nat
  live : Option (Nat × Piston)
  snapshot : Option Record
  setCount : Nat
  cancelCounts : List Nat
  protection : BitVec 128
  deriving DecidableEq, Repr

/-- A lamp answer that is running: the lamp, its blinks and the ms it has run (R44, R164). -/
structure Answer where
  lamp : Lamp
  blinks : Nat
  ms : Nat
  deriving DecidableEq, Repr

/-- A step of a sequence (R68). -/
inductive SequenceStep where
  | general (g : Nat)
  | divisional (d n : Nat)
  | generalCancel
  deriving DecidableEq, Repr

/-- The Sequencer: its working copy, whose length is the list's, and the cursor (R67). -/
structure Sequencer where
  steps : List SequenceStep
  cursor : Nat
  deriving DecidableEq, Repr

/-- The source of a write (R56); a service write names the kind byte of its request, for the reply. -/
inductive WriteSource where
  | capture | sequence | protection | lastRegistration | stage | tutti
  | service (request : Nat)
  deriving DecidableEq, Repr

/-- An entry of the write queue (R56). -/
structure WriteEntry where
  slot : Nat
  content : Content
  source : WriteSource
  deriving DecidableEq, Repr

/-- Where a write in flight comes from (R55). -/
inductive FlightKind where
  | queue | refresh | clear
  deriving DecidableEq, Repr

/-- The write in flight; rewrite says that its first readback disagreed (R58, R59). -/
structure Flight where
  slot : Nat
  content : Content
  kind : FlightKind
  rewrite : Bool
  ms : Nat
  deriving DecidableEq, Repr

/-- A memory clear that was taken: what it holds, the queue entries it still waits for, and the slots begun and settled (R64,
R65). It runs once it waits for none. -/
structure Clear where
  layout : Layout
  partition : Partition
  scope : DivisionSet
  before : Nat
  next : Nat
  deriving DecidableEq, Repr

/-- The combination memory's array: the bytes that differ from an unlisted byte, by address 64 n + b (R46). -/
abbrev Memory := List Host.Cell

/-- The Combination Memory Controller (R46 to R65). -/
structure MemoryController where
  cells : Memory
  partition : Option Partition
  queue : List WriteEntry
  flight : Option Flight
  retention : Nat
  idle : Nat
  clear : Option Clear
  clearSettled : Nat
  clearTotal : Nat
  deriving DecidableEq, Repr

/-- The Crescendo Unit (R79). -/
structure CrescendoUnit where
  count : Nat
  refA : Bool
  refB : Bool
  phaseErrors : Nat
  held : Bool
  program : Nat
  stage : Nat
  tutti : Bool
  localAdditions : Sets
  effective : Sets
  repeatCount : Nat
  deriving DecidableEq, Repr

/-- The motion states (R103). -/
inductive MotionState where
  | aligned | queued | driving | settling | stuck | unaligned
  deriving DecidableEq, Repr

/-- A motion record (R102); coil is the channel energized, true for the on-coil (R108). -/
structure MotionRecord where
  d : Nat
  i : Nat
  target : Bool
  sensed : Bool
  state : MotionState
  retry : Nat
  window : Option Nat
  coil : Option Bool
  deriving DecidableEq, Repr

/-- The Motion Controller: its records in ascending order, the motion queue by control, and the energized count (R102,
R105). -/
structure Motion where
  records : List MotionRecord
  queue : List (Nat × Nat)
  energized : Nat
  deriving DecidableEq, Repr

/-- The Link Controller (R136). receiving is the receiver's interest in the frame that the line carries: a frame that another
station began on an idle line, until it is complete or discarded (R134). -/
structure Link where
  number : Nat
  rate : Rate
  urgent : List Frame
  routine : List Frame
  outgoing : Option Frame
  idle : Bool
  receiving : Bool
  released : Nat
  slotsBegun : Option Nat
  yield : Bool
  listenOnly : Bool
  deriving DecidableEq, Repr

/-- The kinds of a peer (R147). -/
inductive PeerKind where
  | combination | chamber | serviceTool | other
  deriving DecidableEq, Repr

/-- Presence of a peer (R147). -/
inductive Presence where
  | present | silent | absent
  deriving DecidableEq, Repr

/-- What a console peer last sent of its additions (R147). -/
structure Contribution where
  stage : Nat
  tutti : Bool
  additions : Sets
  deriving DecidableEq, Repr

/-- A taken record of the Peer Table (R147). -/
structure Peer where
  station : Nat
  kind : PeerKind
  state : ReportedState
  presence : Presence
  age : Nat
  sequence : Nat
  gapRun : Nat
  cleanRun : Nat
  alert : Bool
  cause : StartCause
  contribution : Contribution
  deriving DecidableEq, Repr

/-- The supply conditions, true while in force (R156). -/
structure Supply where
  low1 : Bool
  low2 : Bool
  deriving DecidableEq, Repr

/-- What every indicator and the fault output line show, lamp answers apart; a blank display is none (R164, R132). At most one
piston lamp is lit, that of the live piston (R42). -/
structure Panel where
  piston : Option Piston
  set : Bool
  level : Option Nat
  protect : Bool
  sequencer : Option Nat
  sequencerEnd : Bool
  added : Sets
  stage : Option (Nat × Bool)
  tutti : Bool
  program : Option Nat
  fault : Bool
  faultLine : Bool
  deriving DecidableEq, Repr

/-- Every lamp dark, every display blank, the fault line inactive (R164, R132). -/
def darkPanel : Panel where
  piston := none
  set := false
  level := none
  protect := false
  sequencer := none
  sequencerEnd := false
  added := []
  stage := none
  tutti := false
  program := none
  fault := false
  faultLine := false

/-- The station. pending is the model's queue of commands that wait, first in first out; held is what the indicators keep
through Restarting and the Start that follows (R164). -/
structure State where
  pending : List Instr
  station : Station
  cfg : Option Configuration
  start : StartController
  scanner : Scanner
  image : List Division
  refreshPointer : Nat
  recallUnit : RecallUnit
  answers : List Answer
  sequencer : Sequencer
  memory : MemoryController
  crescendo : CrescendoUnit
  motion : Motion
  link : Link
  peers : List (Option Peer)
  supply : Supply
  faults : FaultSet
  held : Panel
  deriving DecidableEq, Repr

/-- The faults of the model. -/
inductive Fault where
  /-- Raised by a physical write of a slot that the array does not have (WRITE_READBACK, RETENTION_REFRESH_WRITE). Safe: no
  run reaches it, since every slot the station writes lies in the array (R49). -/
  | slotOutsideArray (slot : Nat)
  deriving DecidableEq, Repr

/-- The refusals of the model. -/
inductive Refusal where
  /-- Raised by an arm of exec that has no meaning yet; safe. No arm raises it. -/
  | notModelled (mnemonic : String)
  deriving DecidableEq, Repr

/-- A fixed line that has not been sampled since the start (R130, R131). -/
def unsampledLine : FixedLine where
  qualified := none
  level := false
  run := 0

/-- The station as power-on leaves it in Start, with both supply conditions released and nothing listed in the array (R156,
R166; log entry 1). -/
def State.reset : State where
  pending := []
  station := .start
  cfg := none
  start := { cause := .powerOn, joinMs := 0, heartbeatMs := 0, sequence := 0, flagsLeft := 4, drained := false, noCoil := false }
  scanner := { lines := [], restart := unsampledLine, strap := unsampledLine }
  image := []
  refreshPointer := 0
  recallUnit := { level := 1, live := none, snapshot := none, setCount := 0, cancelCounts := [], protection := 0#128 }
  answers := []
  sequencer := { steps := [], cursor := 0 }
  memory := { cells := [], partition := none, queue := [], flight := none, retention := 0, idle := 0, clear := none, clearSettled := 0, clearTotal := 0 }
  crescendo := { count := 0, refA := false, refB := false, phaseErrors := 0, held := false, program := 0, stage := 0, tutti := false, localAdditions := List.replicate 8 0#48, effective := List.replicate 8 0#48, repeatCount := 0 }
  motion := { records := [], queue := [], energized := 0 }
  link := { number := 1, rate := .k125, urgent := [], routine := [], outgoing := none, idle := false, receiving := false, released := 0, slotsBegun := none, yield := false, listenOnly := false }
  peers := List.replicate 14 none
  supply := { low1 := false, low2 := false }
  faults := 0#16
  held := darkPanel

/-- s with its pending replaced. -/
def State.setPending (s : State) (v : List Instr) : State := { s with pending := v }

/-- s with its station replaced. -/
def State.setStation (s : State) (v : Station) : State := { s with station := v }

/-- s with its cfg replaced. -/
def State.setCfg (s : State) (v : Option Configuration) : State := { s with cfg := v }

/-- s with its start replaced. -/
def State.setStart (s : State) (v : StartController) : State := { s with start := v }

/-- s with its scanner replaced. -/
def State.setScanner (s : State) (v : Scanner) : State := { s with scanner := v }

/-- s with its image replaced. -/
def State.setImage (s : State) (v : List Division) : State := { s with image := v }

/-- s with its refreshPointer replaced. -/
def State.setRefreshPointer (s : State) (v : Nat) : State := { s with refreshPointer := v }

/-- s with its recallUnit replaced. -/
def State.setRecallUnit (s : State) (v : RecallUnit) : State := { s with recallUnit := v }

/-- s with its answers replaced. -/
def State.setAnswers (s : State) (v : List Answer) : State := { s with answers := v }

/-- s with its sequencer replaced. -/
def State.setSequencer (s : State) (v : Sequencer) : State := { s with sequencer := v }

/-- s with its memory replaced. -/
def State.setMemory (s : State) (v : MemoryController) : State := { s with memory := v }

/-- s with its crescendo replaced. -/
def State.setCrescendo (s : State) (v : CrescendoUnit) : State := { s with crescendo := v }

/-- s with its motion replaced. -/
def State.setMotion (s : State) (v : Motion) : State := { s with motion := v }

/-- s with its link replaced. -/
def State.setLink (s : State) (v : Link) : State := { s with link := v }

/-- s with its peers replaced. -/
def State.setPeers (s : State) (v : List (Option Peer)) : State := { s with peers := v }

/-- s with its supply replaced. -/
def State.setSupply (s : State) (v : Supply) : State := { s with supply := v }

/-- s with its faults replaced. -/
def State.setFaults (s : State) (v : FaultSet) : State := { s with faults := v }

/-- s with its held replaced. -/
def State.setHeld (s : State) (v : Panel) : State := { s with held := v }

/-- The configuration in force, or the figures of a station that holds none (R166). -/
def State.config (s : State) : Configuration := s.cfg.getD noConfiguration

/-- The partition held, or zeros where none is held (R49). -/
def State.bases (s : State) : Partition :=
  s.memory.partition.getD { levelBase := 0, levelTop := 0, seqBase := 0, cresBase := 0 }

end Sys2Proof.Machine
end

