-- ==== Sys2Proof/Machine/Operands.lean ====
section
/-!
DEFINITION. The values commands and slots carry: stop-control sets, division sets, the fields of a slot's content, piston
records, sequence entries, the partition and the slot addresses (R1, R49 to R54, R171, R174).
-/

namespace Sys2Proof.Machine

/-- The set of division d in a list of one set for each division; a division the list has not is empty. -/
def setAt (l : Sets) (d : Nat) : StopSet := l.getD d 0#48

/-- One set for each of the 8 possible divisions (R54). -/
def setsOf (f : Nat → StopSet) : Sets := (List.range 8).map f

/-- Every set empty. -/
def emptySets : Sets := setsOf fun _ => 0#48

/-- The set of the indices 0 to n - 1 (R1). -/
def definedIndices (n : Nat) : StopSet := BitVec.ofNat 48 (2 ^ n - 1)

/-- x with index i joined (R8). -/
def withStop (x : StopSet) (i : Nat) : StopSet := x ||| BitVec.ofNat 48 (2 ^ i)

/-- x less index i (R8). -/
def withoutStop (x : StopSet) (i : Nat) : StopSet := x &&& ~~~ BitVec.ofNat 48 (2 ^ i)

/-- The members of x that are not members of y (R91). -/
def lessSet (x y : StopSet) : StopSet := x &&& ~~~ y

/-- controls(d) of the configuration, 0 beyond the division count (R1). -/
def Configuration.controlsOf (c : Configuration) (d : Nat) : Nat := c.layout.controls.getD d 0

/-- Dd of a layout, 0 beyond the division count. -/
def Layout.divisionalsOf (l : Layout) (d : Nat) : Nat := l.divisionals.getD d 0

/-- A set of division d restricted to the indices defined for it (R1). -/
def Configuration.restrict (c : Configuration) (d : Nat) (x : StopSet) : StopSet := x &&& definedIndices (c.controlsOf d)

/-- One restricted set for each division of the configuration, empty beyond the division count (R88, R97). -/
def Configuration.restrictAll (c : Configuration) (l : Sets) : Sets :=
  setsOf fun d => if d < c.layout.divisions then c.restrict d (setAt l d) else 0#48

/-- The union, division by division (R97). -/
def unionSets (a b : Sets) : Sets := setsOf fun d => setAt a d ||| setAt b d

/-! ### The fields of a slot's content (R171, R174) -/

/-- Byte i of a content. -/
def Content.byte (c : Content) (i : Nat) : Byte := c.extractLsb' (8 * i) 8

/-- Byte i of a content as a number. -/
def Content.number (c : Content) (i : Nat) : Nat := (Content.byte c i).toNat

/-- The two-byte number at byte i, lowest-order byte first (R171). -/
def Content.word (c : Content) (i : Nat) : BitVec 16 := c.extractLsb' (8 * i) 16

/-- The stop-control set at byte i. -/
def Content.stopSet (c : Content) (i : Nat) : StopSet := c.extractLsb' (8 * i) 48

/-- The 62 bytes of a content in order. -/
def Content.bytes (c : Content) : List Byte := (List.range 62).map (Content.byte c)

/-- A number laid from byte i on. -/
def placed {w : Nat} (i : Nat) (x : BitVec w) : Content := (x.setWidth 496) <<< (8 * i)

/-- One set after another, 6 bytes each, the first in the lowest bytes (R174). -/
def packSets : Sets → Content
  | [] => 0#496
  | x :: rest => placed 0 x ||| (packSets rest <<< 48)

/-- The eight sets laid from byte i on. -/
def unpackSets (c : Content) (i : Nat) : Sets := setsOf fun d => Content.stopSet c (i + 6 * d)

/-- The content of a general or divisional record (R174). -/
def Record.content (r : Record) : Content := placed 0 r.scope ||| (packSets (setsOf (setAt r.sets)) <<< 8)

/-- The record a content holds (R174). -/
def recordOf (c : Content) : Record where
  scope := Content.byte c 0
  sets := unpackSets c 1

/-- The content of a stage, tutti or last-registration record (R174). -/
def setsContent (l : Sets) : Content := packSets (setsOf (setAt l))

/-! ### The check (R172, R174) -/

/-- One bit taken into the check register (R172). -/
def crcBit (r : BitVec 16) (b : Bool) : BitVec 16 :=
  if r.msb != b then (r <<< 1) ^^^ 0x1021#16 else r <<< 1

/-- One byte taken into the check register, highest-order bit first (R172). -/
def crcByte (r : BitVec 16) (b : Byte) : BitVec 16 :=
  [7, 6, 5, 4, 3, 2, 1, 0].foldl (fun r k => crcBit r (b.getLsbD k)) r

/-- The check of a run of bytes (R172). -/
def crc (bytes : List Byte) : BitVec 16 := bytes.foldl crcByte 0xFFFF#16

/-- A content with a check behind it, as 64 bytes. -/
def slotWithCheck (check : BitVec 16) (c : Content) : SlotImage := check ++ c

/-- A content with its own check (R46, R174). -/
def slotOf (c : Content) : SlotImage := slotWithCheck (crc (Content.bytes c)) c

/-- The content bytes of a slot. -/
def SlotImage.content (x : SlotImage) : Content := x.extractLsb' 0 496

/-- The stored check of a slot. -/
def SlotImage.check (x : SlotImage) : BitVec 16 := x.extractLsb' 496 16

/-- The slot's check agrees with its content (R47). -/
def SlotImage.passes (x : SlotImage) : Bool := crc (Content.bytes (SlotImage.content x)) == SlotImage.check x

/-- What a loss of power leaves of a write of content new over a slot that held old (R46). A failing slot fails whatever
error the operand names: an error of 0 is taken as 1. -/
def tornSlot (old : SlotImage) (new : Content) : TornWrite → SlotImage
  | .old => old
  | .new => slotOf new
  | .failing c e => slotWithCheck (crc (Content.bytes c) ^^^ (if e = 0#16 then 1#16 else e)) c

/-! ### Sequence entries (R68, R174) -/

/-- The three bytes of a step entry, none for an entry "none". A parameter byte that the kind does not use is written as 0 (log entry
43). -/
def stepBytes : Option SequenceStep → BitVec 24
  | none => 0#24
  | some (.general g) => BitVec.ofNat 24 (1 + 256 * (g % 256))
  | some (.divisional d n) => BitVec.ofNat 24 (2 + 256 * (d % 256) + 65536 * (n % 256))
  | some .generalCancel => 3#24

/-- The step an entry holds; a kind that is none of the three is taken as "none" (R69, R174). -/
def stepAt (c : Content) (place : Nat) : Option SequenceStep :=
  let p1 := Content.number c (3 * place + 1)
  let p2 := Content.number c (3 * place + 2)
  match Content.number c (3 * place) with
  | 1 => some (.general p1)
  | 2 => some (.divisional p1 p2)
  | 3 => some .generalCancel
  | _ => none

/-- The content of sequence slot j formed whole from a working copy (R76). -/
def sequenceContent (steps : List SequenceStep) (j : Nat) : Content :=
  (List.range 16).foldl (fun c place => c ||| placed (3 * place) (stepBytes steps[16 * j + place]?)) 0#496

/-! ### The partition and the slot addresses (R49 to R53) -/

/-- Slots of one level: G and the Dd of all divisions (R49). -/
def Layout.size (l : Layout) : Nat := l.generals + l.divisionals.sum

/-- Sequence slots of one level (R52). -/
def Layout.sequenceSlots (l : Layout) : Nat := l.steps / 16

/-- The bases computed from the layout quantities (R49); a layout whose regions overlap is refused by R50. -/
def partitionOf (l : Layout) : Partition where
  levelBase := 32
  levelTop := 32 + l.levels * l.size
  seqBase := Config.slotCount - (4 * l.stages + 1) - l.levels * l.sequenceSlots
  cresBase := Config.slotCount - (4 * l.stages + 1)

/-- The level region and the sequence region do not meet (R50), the subtractions of R49 included. -/
def Layout.fits (l : Layout) : Bool :=
  32 + l.levels * l.size + l.levels * l.sequenceSlots + (4 * l.stages + 1) ≤ Config.slotCount

/-- The Dk for k below d together (R51). -/
def Layout.divisionalsBelow (l : Layout) (d : Nat) : Nat := (l.divisionals.take d).sum

/-- The slot of a piston of a level (R51). -/
def pistonSlot (p : Partition) (l : Layout) (level : Nat) : Piston → Nat
  | .general g => p.levelBase + (level - 1) * l.size + (g - 1)
  | .divisional d n => p.levelBase + (level - 1) * l.size + l.generals + l.divisionalsBelow d + (n - 1)

/-- Sequence slot j of a level (R52). -/
def sequenceSlot (p : Partition) (l : Layout) (level j : Nat) : Nat := p.seqBase + (level - 1) * l.sequenceSlots + j

/-- The slot of stage k of a program (R53). -/
def stageSlot (p : Partition) (l : Layout) (program k : Nat) : Nat := p.cresBase + program * l.stages + (k - 1)

/-- The divisions of a scope that the configuration has, in ascending order (R24, R27). -/
def Configuration.divisionsIn (c : Configuration) (scope : DivisionSet) : List Nat :=
  (List.range c.layout.divisions).filter fun d => scope.getLsbD d

end Sys2Proof.Machine
end

