-- ==== Sys2Proof/Machine/Configure.lean ====
section
/-!
DEFINITION. The configuration block: the figures read from the slots and the conditions of the configuration check (R120,
R123, R167, R175).
-/

namespace Sys2Proof.Machine

/-- The layout quantities of slot 1; entries at or above the division count are not read (R175). -/
def layoutOf (c : Content) : Layout where
  divisions := Content.number c 0
  controls := (List.range (Content.number c 0)).map fun d => Content.number c (1 + 2 * d)
  divisionals := (List.range (Content.number c 0)).map fun d => Content.number c (2 + 2 * d)
  generals := Content.number c 17
  levels := Content.number c 18
  steps := Content.number c 19
  stages := Content.number c 20

/-- The ranges of Table 11-2 for slot 1. -/
def layoutOk (l : Layout) : Bool :=
  1 ≤ l.divisions && l.divisions ≤ 8
    && l.controls.all (fun n => 1 ≤ n && n ≤ 48) && l.controls.sum ≤ 256
    && l.divisionals.all (· ≤ 12)
    && l.generals ≤ 40 && 1 ≤ l.levels && l.levels ≤ 128
    && l.steps % 16 == 0 && l.steps ≤ 240 && 8 ≤ l.stages && l.stages ≤ 60

/-- The function a code and two parameter bytes name (Table 12-5); a code above 20 is refused by the check. -/
def functionOf (code p1 p2 : Nat) : LineFunction :=
  match code with
  | 1 => .stopSense p1 p2
  | 2 => .generalPiston p1
  | 3 => .divisionalPiston p1 p2
  | 4 => .set
  | 5 => .generalCancel
  | 6 => .divisionCancel p1
  | 7 => .levelUp
  | 8 => .levelDown
  | 9 => .sequencerNext
  | 10 => .sequencerPrevious
  | 11 => .tutti
  | 12 => .crescendoProgram
  | 13 => .crescendoSet
  | 14 => .protect
  | 15 => .protectOverride
  | 16 => .consoleKey
  | 17 => .faultAcknowledge
  | 18 => .encoderA
  | 19 => .encoderB
  | 20 => .encoderIndex
  | _ => .unused

/-- The line entry at place k of a line-table slot (R175). -/
def lineEntryAt (c : Content) (k : Nat) : LineEntry where
  function := functionOf (Content.number c (3 * k) % 32) (Content.number c (3 * k + 1)) (Content.number c (3 * k + 2))
  inverted := Content.number c (3 * k) / 32 % 2 == 1
  mode := match Content.number c (3 * k) / 64 with | 0 => .direct | 1 => .three | _ => .six

/-- The first byte of an entry names a function and a mode of Table 12-5. -/
def lineCodeOk (c : Content) (k : Nat) : Bool :=
  Content.number c (3 * k) % 32 ≤ 20 && Content.number c (3 * k) / 64 ≠ 3

/-- A function's parameters lie within the configuration (Table 7-1). -/
def parametersOk (l : Layout) : LineFunction → Bool
  | .stopSense d i => d < l.divisions && i < l.controls.getD d 0
  | .generalPiston g => 1 ≤ g && g ≤ l.generals
  | .divisionalPiston d n => d < l.divisions && 1 ≤ n && n ≤ l.divisionalsOf d
  | .divisionCancel d => d < l.divisions
  | _ => true

/-- The controls that Stop sense lines name, gathered one set for each division; none where two lines name one control
(R123). -/
def senseLines : List LineEntry → Sets → Option Sets
  | [], acc => some acc
  | e :: rest, acc =>
    match e.function with
    | .stopSense d i =>
      if (setAt acc d).getLsbD i then none
      else senseLines rest (setsOf fun k => if k = d then withStop (setAt acc k) i else setAt acc k)
    | _ => senseLines rest acc

/-- The lines that carry a function. -/
def linesCarrying (table : List LineEntry) (f : LineFunction) : Nat := table.countP (·.function == f)

/-- The encoder lines stand each on one line, or none of them on any (R123). -/
def encoderLinesOk (table : List LineEntry) : Bool :=
  let a := linesCarrying table .encoderA
  let b := linesCarrying table .encoderB
  let x := linesCarrying table .encoderIndex
  (a == 1 && b == 1 && x == 1) || (a == 0 && b == 0 && x == 0)

/-- A signed byte in two's complement (R175). -/
def signedByte (n : Nat) : Int := if n < 128 then (n : Int) else (n : Int) - 256

/-- The figures of the configuration block (R175). -/
def configurationOf (slot : Nat → Content) : Configuration where
  number := Content.number (slot 0) 0
  rate := if Content.number (slot 0) 1 = 1 then .k125 else .k250
  layout := layoutOf (slot 1)
  budget := Content.number (slot 2) 0
  pulse := Content.number (slot 2) 1
  settle := Content.number (slot 2) 2
  closed := Content.number (slot 2) 3
  opened := (Content.word (slot 2) 4).toNat
  bow := signedByte (Content.number (slot 2) 6)
  hysteresis := Content.number (slot 2) 7
  routes := { lamp := Content.word (slot 3) 0, notice := Content.word (slot 3) 2, line := Content.word (slot 3) 4 }
  policy := match Content.number (slot 3) 6 with | 0 => .cancel | 1 => .last | 2 => .general | _ => .keep
  periods := (List.range 48).map fun m => Content.number (slot 3) (7 + m)
  table := (List.range 384).map fun n => lineEntryAt (slot (4 + n / 16)) (n % 16)
  scope := Content.byte (slot 30) 0
  returnGeneral := Content.number (slot 30) 1
  sensed := setsOf fun d =>
    if Content.number (slot 1) 0 ≤ d then 0#48
    else if d < 4 then Content.stopSet (slot 30) (2 + 6 * d) else Content.stopSet (slot 31) (6 * (d - 4))

/-- Slot 0 names a station number and one of the two rates (R136, R167). -/
def identityOk (c : Content) : Bool :=
  1 ≤ Content.number c 0 && Content.number c 0 ≤ 15 && (Content.number c 1 == 1 || Content.number c 1 == 2)

/-- No fault kind stands in two of the three route sets (R159, R167). -/
def routesOk (r : Routes) : Bool :=
  ((r.lamp &&& r.notice) ||| (r.lamp &&& r.line) ||| (r.notice &&& r.line)) &&& 0x07FF#16 == 0#16

/-- The conditions of Table 11-2 on slots that passed their check. -/
def configurationOk (slot : Nat → Content) : Bool :=
  let c := configurationOf slot
  let l := c.layout
  identityOk (slot 0) && layoutOk l
    && 1 ≤ c.budget && c.budget ≤ 16
    && 20 ≤ c.pulse && c.pulse ≤ 120 && c.pulse % 5 == 0
    && 10 ≤ c.settle && c.settle ≤ 60 && c.settle % 5 == 0
    && 256 ≤ c.opened && c.opened ≤ 4095 && c.closed + 200 ≤ c.opened
    && -127 ≤ c.bow && c.bow ≤ 127 && c.hysteresis ≤ 20
    && routesOk c.routes && Content.number (slot 3) 6 ≤ 3 && c.periods.all (1 ≤ ·)
    && (List.range 384).all (fun n => lineCodeOk (slot (4 + n / 16)) (n % 16))
    && c.table.all (fun e => parametersOk l e.function)
    && senseLines c.table emptySets == some c.sensed
    && encoderLinesOk c.table
    && (List.range 8).all (fun d => !c.scope.getLsbD d || d < l.divisions)
    && (List.range 8).all (fun d => c.restrict d (setAt c.sensed d) == setAt c.sensed d)
    && (c.policy != .general || (1 ≤ c.returnGeneral && c.returnGeneral ≤ l.generals))
    && l.fits

/-- The slots that must pass their check (R167). -/
def requiredSlots : List Nat := List.range 28 ++ [30, 31]

/-- The configuration check: the copy of an accepted configuration, none for a refused one (R167). -/
def checkConfiguration (read : Nat → Option Content) : Option Configuration :=
  if requiredSlots.all (fun n => (read n).isSome) && configurationOk (fun n => (read n).getD 0#496) then
    some (configurationOf fun n => (read n).getD 0#496)
  else none

end Sys2Proof.Machine
end

