-- ==== Sys2Proof/Machine/Formats.lean ====
section
/-!
DEFINITION. The byte layout of the link frames, both ways, the check of a received frame, and the bits of a frame on the line
(R133, R134, R171 to R173).
-/

namespace Sys2Proof.Machine

/-! ### Codes (Tables 12-1 to 12-3) -/

/-- The code of a fault kind (Table 12-1). -/
def faultCode : FaultKind → Nat
  | .stopStuck => 0 | .encoder => 1 | .memoryCheck => 2 | .memoryWrite => 3 | .supplyLow1 => 4 | .supplyLow2 => 5
  | .linkClash => 6 | .linkQuality => 7 | .peerTableFull => 8 | .peerLost => 9 | .config => 10

/-- The eleven kinds in the order of their codes. -/
def faultKinds : List FaultKind :=
  [.stopStuck, .encoder, .memoryCheck, .memoryWrite, .supplyLow1, .supplyLow2, .linkClash, .linkQuality, .peerTableFull, .peerLost, .config]

/-- The kind of a code, none for a code of no kind. -/
def faultOfCode (n : Nat) : Option FaultKind := faultKinds[n]?

/-- The code of a reported state (R173). -/
def stateCode : ReportedState → Nat
  | .joining => 1 | .awake => 2 | .dormant => 3 | .unconfigured => 4 | .service => 5

/-- The reported state of a code. -/
def stateOfCode : Nat → Option ReportedState
  | 1 => some .joining | 2 => some .awake | 3 => some .dormant | 4 => some .unconfigured | 5 => some .service | _ => none

/-- The code of a start cause (R173). -/
def causeCode : StartCause → Nat
  | .powerOn => 1 | .restartLine => 2 | .restartFrame => 3

/-- The start cause of a code. -/
def causeOfCode : Nat → Option StartCause
  | 1 => some .powerOn | 2 => some .restartLine | 3 => some .restartFrame | _ => none

/-- The code of a reply's result (R173). -/
def resultCode : ReplyResult → Nat
  | .done => 0 | .failed => 1 | .queueFull => 2 | .outOfRange => 3 | .notInService => 4 | .taken => 5 | .refused => 6
  | .content => 7 | .failedCheck => 8

/-- The result of a code. -/
def resultOfCode : Nat → Option ReplyResult
  | 0 => some .done | 1 => some .failed | 2 => some .queueFull | 3 => some .outOfRange | 4 => some .notInService
  | 5 => some .taken | 6 => some .refused | 7 => some .content | 8 => some .failedCheck | _ => none

/-- The kind byte of a frame (Table 12-2). -/
def frameKind : Frame → Nat
  | .registrationChange .. => 1 | .crescendo _ => 2 | .heartbeat _ => 3 | .registrationRefresh .. => 4
  | .crescendoRepeat _ => 5 | .faultNotice _ => 6 | .serviceReply .. => 7 | .configurationRead .. => 8
  | .configurationWrite .. => 9 | .slotWrite .. => 10 | .memoryClear _ => 11 | .restart _ => 12

/-! ### Payloads (Table 12-3) -/

/-- A one-byte number. -/
def byteOf (n : Nat) : Byte := BitVec.ofNat 8 n

/-- A two-byte number, lowest-order byte first (R171). -/
def wordBytes (n : Nat) : List Byte := [BitVec.ofNat 8 n, BitVec.ofNat 8 (n / 256)]

/-- A two-byte number read back. -/
def wordOf (lo hi : Byte) : Nat := lo.toNat + 256 * hi.toNat

/-- The six bytes of a stop-control set (R171). -/
def stopSetBytes (x : StopSet) : List Byte := (List.range 6).map fun k => x.extractLsb' (8 * k) 8

/-- A stop-control set from its six bytes. -/
def stopSetOf (b0 b1 b2 b3 b4 b5 : Byte) : StopSet := b5 ++ b4 ++ b3 ++ b2 ++ b1 ++ b0

/-- One stop-control set after another; none where the bytes do not make whole sets. -/
def stopSetsOf : List Byte → Option Sets
  | [] => some []
  | b0 :: b1 :: b2 :: b3 :: b4 :: b5 :: rest => (stopSetsOf rest).map (stopSetOf b0 b1 b2 b3 b4 b5 :: ·)
  | _ => none

/-- A content from its 62 bytes. -/
def contentOf (bytes : List Byte) : Content := bytes.foldr (fun b c => (c <<< 8) ||| placed 0 b) 0#496

def crescendoBytes (c : CrescendoContent) : List Byte :=
  byteOf c.program :: byteOf c.stage :: byteOf c.tutti.toNat :: c.additions.flatMap stopSetBytes

def registrationBytes (d : Nat) (stamp : Stamp) (x : StopSet) : List Byte :=
  byteOf d :: wordBytes stamp.era.toNat ++ byteOf stamp.origin :: stopSetBytes x

def heartbeatBytes (h : HeartbeatContent) : List Byte :=
  [byteOf h.kind, byteOf (stateCode h.state), byteOf (h.startFlag.toNat + 16 * causeCode h.cause), byteOf h.sequence]
    ++ wordBytes h.summary.toNat
    ++ match h.progress with
       | none => []
       | some (done, total) => wordBytes done ++ wordBytes total

/-- The payload of a frame (Table 12-3). -/
def payloadBytes : Frame → List Byte
  | .registrationChange d stamp x => registrationBytes d stamp x
  | .registrationRefresh d stamp x => registrationBytes d stamp x
  | .crescendo c => crescendoBytes c
  | .crescendoRepeat c => crescendoBytes c
  | .heartbeat h => heartbeatBytes h
  | .faultNotice k => [byteOf (faultCode k)]
  | .serviceReply request slot result content =>
    byteOf request :: wordBytes slot ++ byteOf (resultCode result) :: (content.elim [] Content.bytes)
  | .configurationRead target slot => byteOf target :: wordBytes slot
  | .configurationWrite target slot c => byteOf target :: wordBytes slot ++ Content.bytes c
  | .slotWrite target slot c => byteOf target :: wordBytes slot ++ Content.bytes c
  | .memoryClear target => [byteOf target]
  | .restart target => [byteOf target]

/-- The bytes of a frame before its check: origin, kind, length, payload (R172). -/
def checkedBytes (origin : Nat) (f : Frame) : List Byte :=
  byteOf origin :: byteOf (frameKind f) :: byteOf (payloadBytes f).length :: payloadBytes f

/-- A frame as it is sent: the checked bytes and their check, lowest-order byte first (R172). -/
def frameBytes (origin : Nat) (f : Frame) : List Byte :=
  checkedBytes origin f ++ wordBytes (crc (checkedBytes origin f)).toNat

/-- The bit times of a byte on the line, true for released: start bit, data bits lowest-order first, stop bit (R133). -/
def byteBits (b : Byte) : List Bool := false :: (List.range 8).map b.getLsbD ++ [true]

/-- The bit times of a frame on the line (R133). -/
def frameBits (origin : Nat) (f : Frame) : List Bool := (frameBytes origin f).flatMap byteBits

/-! ### Reading a received frame (R134) -/

def readRegistration (payload : List Byte) (make : Nat → Stamp → StopSet → Frame) : Option Frame :=
  match payload with
  | [d, e0, e1, o, b0, b1, b2, b3, b4, b5] =>
    some (make d.toNat { era := e1 ++ e0, origin := o.toNat } (stopSetOf b0 b1 b2 b3 b4 b5))
  | _ => none

def readCrescendo (payload : List Byte) (make : CrescendoContent → Frame) : Option Frame :=
  match payload with
  | program :: stage :: tutti :: rest =>
    if tutti.toNat ≤ 1 then
      (stopSetsOf rest).map fun additions =>
        make { program := program.toNat, stage := stage.toNat, tutti := tutti.toNat == 1, additions := additions }
    else none
  | _ => none

/-- A heartbeat; the bits of byte 2 that the layout does not name are not read (log entry 11). -/
def readHeartbeat (payload : List Byte) : Option Frame :=
  match payload with
  | kind :: state :: flags :: sequence :: f0 :: f1 :: rest =>
    match stateOfCode state.toNat, causeOfCode (flags.toNat / 16 % 4) with
    | some st, some cause =>
      let make := fun progress => Frame.heartbeat { kind := kind.toNat, state := st, startFlag := flags.getLsbD 0, cause := cause, sequence := sequence.toNat, summary := f1 ++ f0, progress := progress }
      match rest with
      | [] => some (make none)
      | [a0, a1, b0, b1] => some (make (some (wordOf a0 a1, wordOf b0 b1)))
      | _ => none
    | _, _ => none
  | _ => none

def readReply (payload : List Byte) : Option Frame :=
  match payload with
  | request :: s0 :: s1 :: result :: rest =>
    (resultOfCode result.toNat).bind fun r =>
      if rest.length = 0 then some (.serviceReply request.toNat (wordOf s0 s1) r none)
      else if rest.length = 62 then some (.serviceReply request.toNat (wordOf s0 s1) r (some (contentOf rest)))
      else none
  | _ => none

def readSlotContent (payload : List Byte) (make : Nat → Nat → Content → Frame) : Option Frame :=
  match payload with
  | target :: s0 :: s1 :: rest =>
    if rest.length = 62 then some (make target.toNat (wordOf s0 s1) (contentOf rest)) else none
  | _ => none

/-- The frame a kind byte and a payload of an accepted length spell (Tables 12-2 and 12-3). -/
def readPayload (kind : Nat) (payload : List Byte) : Option Frame :=
  match kind with
  | 1 => readRegistration payload .registrationChange
  | 2 => readCrescendo payload .crescendo
  | 3 => readHeartbeat payload
  | 4 => readRegistration payload .registrationRefresh
  | 5 => readCrescendo payload .crescendoRepeat
  | 6 => match payload with | [k] => (faultOfCode k.toNat).map .faultNotice | _ => none
  | 7 => readReply payload
  | 8 => match payload with | [t, s0, s1] => some (.configurationRead t.toNat (wordOf s0 s1)) | _ => none
  | 9 => readSlotContent payload .configurationWrite
  | 10 => readSlotContent payload .slotWrite
  | 11 => match payload with | [t] => some (.memoryClear t.toNat) | _ => none
  | 12 => match payload with | [t] => some (.restart t.toNat) | _ => none
  | _ => none

def crescendoFieldsOk (c : CrescendoContent) : Bool :=
  c.program ≤ 3 && c.stage ≤ 60 && 1 ≤ c.additions.length && c.additions.length ≤ 8

/-- Every field of the payload holds a value that Formats gives for it (R134, R173). A station kind may be any byte. -/
def fieldsOk : Frame → Bool
  | .registrationChange d stamp _ => d ≤ 7 && 1 ≤ stamp.origin && stamp.origin ≤ 15
  | .registrationRefresh d stamp _ => d ≤ 7 && 1 ≤ stamp.origin && stamp.origin ≤ 15
  | .crescendo c => crescendoFieldsOk c
  | .crescendoRepeat c => crescendoFieldsOk c
  | .heartbeat h => h.kind ≤ 255 && h.sequence ≤ 15 && h.progress.all fun p => p.1 ≤ 65535 && p.2 ≤ 65535
  | .faultNotice _ => true
  | .serviceReply request slot result content =>
    8 ≤ request && request ≤ 12 && slot ≤ 65535 && (content.isSome == (result == .content))
  | .configurationRead target slot => 1 ≤ target && target ≤ 15 && slot ≤ 65535
  | .configurationWrite target slot _ => 1 ≤ target && target ≤ 15 && slot ≤ 65535
  | .slotWrite target slot _ => 1 ≤ target && target ≤ 15 && slot ≤ 65535
  | .memoryClear target => 1 ≤ target && target ≤ 15
  | .restart target => 1 ≤ target && target ≤ 15

/-- A frame received whole is accepted: its origin is a station number and its fields are good (R134). -/
def acceptable (origin : Nat) (f : Frame) : Bool := 1 ≤ origin && origin ≤ 15 && fieldsOk f

/-- The bytes a receiver collected, judged by R134: the origin and the frame, or none where the frame is discarded. -/
def judgeFrame (framing : Option FramingFault) (bytes : List Byte) : Option (Nat × Frame) :=
  match framing, bytes with
  | none, origin :: kind :: length :: rest =>
    if length.toNat ≤ Config.maxPayload ∧ rest.length = length.toNat + 2 then
      let payload := rest.take length.toNat
      if rest.drop length.toNat = wordBytes (crc (origin :: kind :: length :: payload)).toNat then
        match readPayload kind.toNat payload with
        | some f => if acceptable origin.toNat f then some (origin.toNat, f) else none
        | none => none
      else none
    else none
  | _, _ => none

end Sys2Proof.Machine
end

