-- ==== Sys2Proof/Machine/Ops.lean ====
section
/-!
DEFINITION. The operations every block shares: which states a block acts in, handing a frame to the Link Controller, a lamp
answer, and the line table as the blocks read it.
-/

namespace Sys2Proof.Machine

/-! ### Station states -/

/-- Joining, Awake and Dormant: the states in which the image, the Peer Table and the timers of play act (R12, R62, R147). -/
def Station.inPlay : Station → Bool
  | .joining | .awake | .dormant => true
  | _ => false

/-- The states in which the Link Controller takes hand-overs (R145). Only the Start Controller and the Supply and Fault Unit
hand frames in Unconfigured and Service, since the other blocks hold nothing there (R18, R168). -/
def Station.takesHandOvers : Station → Bool
  | .joining | .awake | .dormant | .unconfigured | .service => true
  | _ => false

/-- The states in which the station receives and sends (R145). -/
def Station.onLink : Station → Bool
  | .off | .start => false
  | _ => true

/-! ### Frames handed to the Link Controller (R135, R137, R138) -/

/-- The key under which a frame waits (R137). -/
inductive FrameKey where
  | registrationChange (d : Nat)
  | crescendo
  | heartbeat
  | registrationRefresh (d : Nat)
  | crescendoRepeat
  | faultNotice (kind : FaultKind)
  | serviceReply
  | received
  deriving DecidableEq, Repr

/-- The key of a frame (R137); the kinds the station only receives have no key of their own. -/
def frameKey : Frame → FrameKey
  | .registrationChange d _ _ => .registrationChange d
  | .crescendo _ => .crescendo
  | .heartbeat _ => .heartbeat
  | .registrationRefresh d _ _ => .registrationRefresh d
  | .crescendoRepeat _ => .crescendoRepeat
  | .faultNotice k => .faultNotice k
  | .serviceReply .. => .serviceReply
  | _ => .received

/-- Registration changes and crescendo frames are urgent, the rest routine (R135). -/
def isUrgent : Frame → Bool
  | .registrationChange .. | .crescendo _ => true
  | _ => false

/-- Some frame with f's key waits in q. -/
def waitsIn (q : List Frame) (f : Frame) : Bool := q.any fun g => frameKey g == frameKey f

/-- f in the place of the waiting frame with its key; nothing changes where none waits (R138). -/
def replaceWaiting (q : List Frame) (f : Frame) : List Frame := q.map fun g => if frameKey g = frameKey f then f else g

/-- f handed to a queue: in the place of the waiting frame with its key, else at the tail (R138). -/
def enqueue (q : List Frame) (f : Frame) : List Frame := if waitsIn q f then replaceWaiting q f else q ++ [f]

/-- A link whose queue of f's class was handed f (R138). -/
def linkHanded (l : Link) (f : Frame) : Link :=
  if isUrgent f then { l with urgent := enqueue l.urgent f } else { l with routine := enqueue l.routine f }

/-- A block hands the Link Controller a frame; it is dropped in Start and in Restarting (R138, R145). -/
def handOver (f : Frame) (s : State) : State :=
  if s.station.takesHandOvers then s.setLink (linkHanded s.link f) else s

/-- Frames handed one after another. -/
def handOverAll (fs : List Frame) (s : State) : State := fs.foldl (fun s f => handOver f s) s

/-! ### Lamp answers (R44) -/

/-- A lamp answer of n blinks; it takes the place of one that runs on the same lamp. -/
def answer (lamp : Lamp) (n : Nat) (s : State) : State :=
  s.setAnswers (s.answers.filter (fun a => a.lamp != lamp) ++ [{ lamp := lamp, blinks := n, ms := 0 }])

/-- The Set lamp answers a refusal with 3 blinks (R35, R37, R39). -/
def refuse (s : State) : State := answer .set 3 s

/-! ### The line table -/

/-- The function a line carries; Unused where no table is held (R120, R123). -/
def State.functionOfLine (s : State) (n : Nat) : LineFunction :=
  match s.config.table[n]? with
  | some e => e.function
  | none => .unused

/-- The qualified state of a line (R121). -/
def State.qualified (s : State) (n : Nat) : Bool :=
  match s.scanner.lines[n]? with
  | some l => l.qualified
  | none => false

/-- Some line carrying f is qualified active (R40, R129). -/
def State.anyActive (s : State) (f : LineFunction) : Bool :=
  (List.range s.config.table.length).any fun n => s.functionOfLine n == f && s.qualified n

/-- A line carrying f, if there is one. -/
def State.lineOf (s : State) (f : LineFunction) : Option Nat := s.config.table.findIdx? fun e => e.function == f

/-- The qualified state of the line that carries f, inactive where none does. -/
def State.stateOfFunction (s : State) (f : LineFunction) : Bool :=
  match s.lineOf f with
  | some n => s.qualified n
  | none => false

/-- The Protect override is given (R40). -/
def State.overrideActive (s : State) : Bool := s.anyActive .protectOverride

/-- The console is on (R129). -/
def State.consoleOn (s : State) : Bool := (s.lineOf .consoleKey).isNone || s.anyActive .consoleKey

/-- Set is held (R31). -/
def State.setIsHeld (s : State) : Bool := 0 < s.recallUnit.setCount

/-- The three encoder lines are assigned (R84). -/
def State.hasEncoder (s : State) : Bool := (s.lineOf .encoderA).isSome

/-! ### Figures read often -/

/-- The division count. -/
def State.divisionCount (s : State) : Nat := s.config.layout.divisions

/-- The drawn set of a division. -/
def State.drawn (s : State) (d : Nat) : StopSet :=
  match s.image[d]? with
  | some v => v.drawn
  | none => 0#48

/-- All drawn sets, empty beyond the division count. -/
def State.drawnSets (s : State) : Sets := setsOf s.drawn

/-- The current level is protected (R38). -/
def State.levelProtected (s : State) : Bool := s.recallUnit.protection.getLsbD (s.recallUnit.level - 1)

end Sys2Proof.Machine
end

