-- ==== Sys2Proof/Machine/Flags.lean ====
section
/-!
DEFINITION. The latched fault flags: latching, routes, notices, persisting causes (R158 to R163).
-/

namespace Sys2Proof.Machine

/-- The set of one kind. -/
def faultBit (k : FaultKind) : FaultSet := BitVec.ofNat 16 (2 ^ faultCode k)

/-- Kind k is latched. -/
def State.latched (s : State) (k : FaultKind) : Bool := s.faults.getLsbD (faultCode k)

/-- The routes in force: those of the configuration, or the fixed routes where none is held (R159). -/
def State.routes (s : State) : Routes := s.config.routes

/-- A block reports kind k: the flag latches, and a kind in the Notice set hands a notice (R158, R160). -/
def latch (k : FaultKind) (s : State) : State :=
  let t := s.setFaults (s.faults ||| faultBit k)
  if s.routes.notice.getLsbD (faultCode k) then handOver (.faultNotice k) t else t

/-- latch where a condition holds. -/
def latchIf (b : Bool) (k : FaultKind) (s : State) : State := if b then latch k s else s

/-- The cause of a latched kind persists (R158). -/
def State.causePersists (s : State) : FaultKind → Bool
  | .stopStuck => s.motion.records.any fun r => r.state == .stuck
  | .encoder => s.crescendo.held
  | .supplyLow1 => s.supply.low1
  | .supplyLow2 => s.supply.low2
  | .linkClash => s.link.listenOnly
  | .linkQuality => s.peers.any fun p => p.any (·.alert)
  | .peerLost => s.peers.any fun p => p.any fun r => r.kind == .combination && r.presence == .absent
  | .memoryCheck | .memoryWrite | .peerTableFull | .config => false

/-- The kinds of a list as a set. -/
def faultSetOf (ks : List FaultKind) : FaultSet := ks.foldl (fun x k => x ||| faultBit k) 0#16

/-- Every latched kind whose cause no longer persists is cleared (R162 step 2). -/
def clearFaults (s : State) : State := s.setFaults (s.faults &&& faultSetOf (faultKinds.filter s.causePersists))

/-- The notices of the kinds latched in Start, handed at its end under the accepted routes (R160). -/
def noticesAtStartEnd (s : State) : State :=
  handOverAll ((faultKinds.filter fun k => s.latched k && s.routes.notice.getLsbD (faultCode k)).map .faultNotice) s

/-- Low1 or Low2 as they stand latch their kinds at a start (R163). -/
def supplyFaults (v : Supply) : FaultSet :=
  (if v.low1 then faultBit .supplyLow1 else 0#16) ||| (if v.low2 then faultBit .supplyLow2 else 0#16)

end Sys2Proof.Machine
end

