-- ==== Sys2Proof/Machine/Memory.lean ====
section
/-!
DEFINITION. The Combination Memory Controller: the array, reads of the newest content, the write queue, verified writes, the
retention refresh and the memory clear (R46 to R66), with the commands that end a write and run the refresh.
-/

namespace Sys2Proof.Machine

/-! ### The array (R46) -/

/-- The byte at an address; an address that is not listed reads as Config.unlistedByte. -/
def Memory.read : Memory → Nat → Byte
  | [], _ => Config.unlistedByte
  | (b, v) :: rest, a => if a = b then v else Memory.read rest a

/-- The array with v at address a, in canonical form. -/
def Memory.write : Memory → Nat → Byte → Memory
  | [], a, v => if v = Config.unlistedByte then [] else [(a, v)]
  | (b, w) :: rest, a, v =>
    if a < b then (if v = Config.unlistedByte then (b, w) :: rest else (a, v) :: (b, w) :: rest)
    else if a = b then (if v = Config.unlistedByte then rest else (a, v) :: rest)
    else (b, w) :: Memory.write rest a v

/-- Addresses above a floor and strictly rising, no entry equal to an unlisted byte. -/
def Memory.wfFrom : Nat → Memory → Bool
  | _, [] => true
  | floor, (a, v) :: rest => floor ≤ a && v != Config.unlistedByte && Memory.wfFrom (a + 1) rest

/-- The canonical form of the array. -/
def Memory.wf (m : Memory) : Bool := Memory.wfFrom 0 m

/-- Byte b of slot n stands at this address (R46). -/
def slotAddress (n b : Nat) : Nat := Config.slotBytes * n + b

/-- The 64 bytes of a slot as they stand in the array. -/
def readSlotImage (m : Memory) (n : Nat) : SlotImage :=
  (List.range Config.slotBytes).foldr (fun b x => (x <<< 8) ||| (Memory.read m (slotAddress n b)).setWidth 512) 0#512

/-- The array with all 64 bytes of a slot replaced. -/
def writeSlotImage (m : Memory) (n : Nat) (x : SlotImage) : Memory :=
  (List.range Config.slotBytes).foldl (fun m b => Memory.write m (slotAddress n b) (x.extractLsb' (8 * b) 8)) m

/-- The content of a slot of the array, none where it fails its check (R47). -/
def arrayContent (m : Memory) (n : Nat) : Option Content :=
  if SlotImage.passes (readSlotImage m n) then some (SlotImage.content (readSlotImage m n)) else none

/-! ### Reads (R55) -/

/-- Entries of the queue whose write has begun: the head while a queue entry is in flight (R56). -/
def MemoryController.begun (m : MemoryController) : Nat :=
  match m.flight with
  | some f => if f.kind = .queue then 1 else 0
  | none => 0

/-- The entries not yet begun, oldest first. -/
def MemoryController.waiting (m : MemoryController) : List WriteEntry := m.queue.drop m.begun

/-- The newest content of a slot: the waiting entry, the write in flight, the array (R55); none for a failed check. -/
def newest (m : MemoryController) (n : Nat) : Option Content :=
  match m.waiting.find? (fun e => e.slot == n) with
  | some e => some e.content
  | none =>
    match m.flight with
    | some f => if f.slot = n then some f.content else arrayContent m.cells n
    | none => arrayContent m.cells n

/-- Some of the slots fails its check when read. -/
def anyFails (m : MemoryController) (slots : List Nat) : Bool := slots.any fun n => (newest m n).isNone

/-- The slots were read by a block: MEMORY_CHECK latches if one failed (R47). Several failures of one reading latch the one
flag and leave the one waiting notice, as one does (log entry 26). -/
def noteReads (slots : List Nat) (s : State) : State := latchIf (anyFails s.memory slots) .memoryCheck s

/-! ### Beginning a write (R58, R65) -/

/-- The slots a clear is to write (R65). -/
def clearTotalOf (l : Layout) : Nat := 2 + l.levels * l.size + l.levels * l.sequenceSlots + (4 * l.stages + 1)

/-- Slot k of a clear's ascending order: 28, 29, the level region, then the sequence and crescendo regions (R65). -/
def clearSlot (c : Clear) (k : Nat) : Nat :=
  if k < 2 then Config.protectionSlot + k
  else if k - 2 < c.layout.levels * c.layout.size then c.partition.levelBase + (k - 2)
  else c.partition.seqBase + (k - 2 - c.layout.levels * c.layout.size)

/-- The division whose divisional stands at a place among the divisionals of a level (R51). -/
def divisionalOwner : List Nat → Nat → Nat → Nat
  | [], d, _ => d
  | n :: rest, d, place => if place < n then d else divisionalOwner rest (d + 1) (place - n)

/-- The empty record a clear writes to its slot k (R54, R65). The entries "none" of a sequence slot have parameter bytes of 0 (log
entry 43). -/
def clearContent (c : Clear) (k : Nat) : Content :=
  if k < 2 then 0#496
  else if k - 2 < c.layout.levels * c.layout.size then
    let place := (k - 2) % c.layout.size
    if place < c.layout.generals then Record.content { scope := c.scope, sets := emptySets }
    else
      let d := divisionalOwner c.layout.divisionals 0 (place - c.layout.generals)
      Record.content { scope := BitVec.ofNat 8 (2 ^ d), sets := emptySets }
  else 0#496

/-- The next write in flight where none is and no condition holds it back: a running clear's next slot, else the head of the
queue (R58, R65). -/
def nextFlight (m : MemoryController) : Option Flight :=
  match m.clear with
  | some c =>
    if c.before = 0 then some { slot := clearSlot c c.next, content := clearContent c c.next, kind := .clear, rewrite := false, ms := 0 }
    else m.queue.head?.map fun e => { slot := e.slot, content := e.content, kind := .queue, rewrite := false, ms := 0 }
  | none => m.queue.head?.map fun e => { slot := e.slot, content := e.content, kind := .queue, rewrite := false, ms := 0 }

/-- The conditions of R58 and R65 are judged, and a write begins where they hold. -/
def beginWrite (s : State) : State :=
  if s.memory.flight.isNone && !s.supply.low2 then s.setMemory { s.memory with flight := nextFlight s.memory } else s

/-! ### Admission (R57) -/

/-- Some waiting entry is of slot n. -/
def hasWaiting (m : MemoryController) (n : Nat) : Bool := m.waiting.any fun e => e.slot == n

/-- The queue can take a request: the entries it needs are free (R57). -/
def admits (m : MemoryController) (request : List WriteEntry) : Bool :=
  (request.filter fun e => !hasWaiting m e.slot).length + m.queue.length ≤ Config.writeQueueEntries

/-- e among waiting entries: in the place of the entry of its slot, else at the tail (R57). Where that entry stands ahead of a clear
that still waits, R57 is followed and not R66 (log entry 37). -/
def placeEntry (w : List WriteEntry) (e : WriteEntry) : List WriteEntry :=
  if w.any fun x => x.slot == e.slot then w.map fun x => if x.slot = e.slot then e else x else w ++ [e]

/-- The queue after a request that was taken; the request names its slots in ascending order. -/
def queueAfter (m : MemoryController) (request : List WriteEntry) : List WriteEntry :=
  m.queue.take m.begun ++ request.foldl placeEntry m.waiting

/-- A write request taken whole, with a write begun where it can, or refused: none (R57, R58). Restarting refuses every
request (R61). -/
def writeRequest (request : List WriteEntry) (s : State) : Option State :=
  if s.station ≠ .restarting ∧ admits s.memory request then
    some (beginWrite (s.setMemory { s.memory with queue := queueAfter s.memory request }))
  else none

/-! ### Settling a write (R59) -/

/-- The reply a settled service write sends (R66, R169). -/
def settlementReply (e : WriteEntry) (done : Bool) (s : State) : State :=
  match e.source with
  | .service request => handOver (.serviceReply request e.slot (if done then .done else .failed) none) s
  | _ => s

/-- A queue entry leaves the queue at its settlement; a waiting clear waits for one entry less (R59, R64). -/
def settleEntry (done : Bool) (s : State) : State :=
  let t := s.setMemory { s.memory with queue := s.memory.queue.tail, flight := none, clear := s.memory.clear.map fun c => { c with before := c.before - 1 } }
  match s.memory.queue with
  | e :: _ => settlementReply e done t
  | [] => t

/-- A clear write is settled: the count rises, and after the last slot the clear has ended (R65). -/
def settleClear (s : State) : State :=
  s.setMemory { s.memory with
    flight := none
    clearSettled := s.memory.clearSettled + 1
    clear := s.memory.clear.bind fun c => if c.next + 1 < s.memory.clearTotal then some { c with next := c.next + 1 } else none }

/-- The retention pointer moves to the next slot, from the last to 0 (R63). -/
def advanceRetention (m : MemoryController) : MemoryController := { m with retention := (m.retention + 1) % Config.slotCount }

/-- A refresh write is settled: the pointer advances (R63). -/
def settleRefresh (s : State) : State := s.setMemory (advanceRetention { s.memory with flight := none })

/-- The write in flight is settled, done or failed (R59). -/
def settle (kind : FlightKind) (done : Bool) (s : State) : State :=
  match kind with
  | .queue => settleEntry done s
  | .refresh => settleRefresh s
  | .clear => settleClear s

/-- In Restarting, the drained report is held once the queue is empty and no write is in flight (R61). -/
def reportDrained (s : State) : State :=
  if s.station = .restarting ∧ s.memory.queue = [] ∧ s.memory.flight = none then s.setStart { s.start with drained := true } else s

/-- Entries not yet begun are discarded where Low2 is in force in Restarting (R61). -/
def discardWaiting (s : State) : State :=
  if s.station = .restarting ∧ s.supply.low2 then s.setMemory { s.memory with queue := s.memory.queue.take s.memory.begun } else s

/-! ### Commands -/

/-- The slot holds what the readback found; a readback whose check fails latches MEMORY_CHECK (R47). As written, the write is
settled; a first disagreement starts the rewrite, a second latches MEMORY_WRITE and settles it as failed (R59). -/
def judgeReadback (x : SlotImage) (passes asWritten : Bool) (f : Flight) (s : State) : State :=
  let t := latchIf (!passes) .memoryCheck (s.setMemory { s.memory with cells := writeSlotImage s.memory.cells f.slot x })
  if asWritten then reportDrained (beginWrite (settle f.kind true t))
  else if f.rewrite then reportDrained (beginWrite (settle f.kind false (latch .memoryWrite t)))
  else t.setMemory { t.memory with flight := some { f with rewrite := true, ms := 0 } }

/-- What the readback finds: the operand, the slot as written where it names none (log entry 8). -/
def foundBy (found : Option SlotImage) (f : Flight) : SlotImage := found.getD (slotOf f.content)

/-- The end of the 4 ms of a write (R59). -/
def readback (found : Option SlotImage) (f : Flight) (s : State) : State :=
  judgeReadback (foundBy found f) (SlotImage.passes (foundBy found f)) (foundBy found f == slotOf f.content) f s

/-- WRITE_READBACK (R59). With no write in flight there is none to end (log entry 4). -/
def execWriteReadback (found : Option SlotImage) (s : State) : Host.Outcome State Fault Refusal :=
  match s.memory.flight with
  | none => .next s
  | some f => if f.slot < Config.slotCount then .next (readback found f s) else .fault (.slotOutsideArray f.slot)

/-- The idle timer is idle-ready (R62). -/
def MemoryController.idleReady (m : MemoryController) : Bool := Config.idleReadyMs ≤ m.idle

/-- IDLE_READY: the timer, which runs in Joining, Awake and Dormant, has run 2000 ms (R62). -/
def execIdleReady (s : State) : Host.Outcome State Fault Refusal :=
  .next (if s.station.inPlay then s.setMemory { s.memory with idle := max s.memory.idle Config.idleReadyMs } else s)

/-- The conditions under which a refresh write begins (R63). -/
def State.refreshMayBegin (s : State) : Bool :=
  s.station.inPlay && s.memory.idleReady && s.memory.queue.isEmpty && s.memory.flight.isNone && !s.supply.low2 && s.memory.clear.isNone

/-- A refresh write of a content begins at the retention pointer, or the slot is passed over where it gave none (R63). -/
def refreshWith (content : Option Content) (s : State) : State :=
  match content with
  | some c => s.setMemory { s.memory with flight := some { slot := s.memory.retention, content := c, kind := .refresh, rewrite := false, ms := 0 } }
  | none => (latch .memoryCheck s).setMemory (advanceRetention s.memory)

/-- The slot at the retention pointer is written with its own content, or passed over where it fails its check (R63). -/
def refreshSlot (s : State) : State := refreshWith (arrayContent s.memory.cells s.memory.retention) s

/-- RETENTION_REFRESH_WRITE (R63). Where a condition fails no refresh write begins. -/
def execRetentionRefreshWrite (s : State) : Host.Outcome State Fault Refusal :=
  if s.refreshMayBegin then
    if s.memory.retention < Config.slotCount then .next (refreshSlot s) else .fault (.slotOutsideArray s.memory.retention)
  else .next s

/-! ### The memory clear (R64) -/

/-- The clear that a request takes, none where it is refused (R64). -/
def clearRequest (m : MemoryController) : Option Clear :=
  match m.clear, newest m 1, newest m 30, newest m 31 with
  | none, some c1, some c30, some _ =>
    let l := layoutOf c1
    if layoutOk l && l.fits then
      some { layout := l, partition := partitionOf l, scope := Content.byte c30 0, before := m.queue.length, next := 0 }
    else none
  | _, _, _, _ => none

/-- A local event restarts the idle timer (R45, R62). -/
def localEvent (s : State) : State := s.setMemory { s.memory with idle := 0 }

end Sys2Proof.Machine
end

