-- ==== Sys2Proof/Machine/Motion.lean ====
section
/-!
DEFINITION. The Motion Controller: targets, the motion queue, pulses within the budget, the settle judgement, and the records at
changes of the station state (R102 to R118), with the commands that end a pulse and a settle window.
-/

namespace Sys2Proof.Machine

/-- The control a record is of. -/
def MotionRecord.key (r : MotionRecord) : Nat × Nat := (r.d, r.i)

/-- The record is Queued. -/
def MotionRecord.isQueued (r : MotionRecord) : Bool := r.state == .queued

/-- The record of a control. -/
def Motion.find (m : Motion) (d i : Nat) : Option MotionRecord := m.records.find? fun r => r.d == d && r.i == i

/-- Every record passes through f. A record that ceases to be Queued leaves the queue; those that become Queued are appended
in ascending order (R105). -/
def Motion.update (m : Motion) (f : MotionRecord → MotionRecord) : Motion where
  records := m.records.map f
  queue :=
    m.queue.filter (fun k => m.records.any fun r => r.key == k && (f r).isQueued)
      ++ (m.records.filter fun r => !r.isQueued && (f r).isQueued).map MotionRecord.key
  energized := m.energized

/-- f on the record of one control alone. -/
def onRecord (d i : Nat) (f : MotionRecord → MotionRecord) (r : MotionRecord) : MotionRecord :=
  if r.d = d ∧ r.i = i then f r else r

/-! ### Targets and sense changes (R106, R112) -/

/-- A record whose sensed field or target has just changed: agreement makes a waiting or Stuck record Aligned, and
disagreement queues an Aligned one (R106). -/
def MotionRecord.settleState (r : MotionRecord) : MotionRecord :=
  match r.state with
  | .aligned => if r.sensed = r.target then r else { r with state := .queued }
  | .queued => if r.sensed = r.target then { r with state := .aligned, retry := 0 } else r
  | .stuck => if r.sensed = r.target then { r with state := .aligned, retry := 0 } else r
  | .driving | .settling | .unaligned => r

/-- The image sets a record's target (R106). -/
def MotionRecord.setTarget (t : Bool) (r : MotionRecord) : MotionRecord :=
  if r.target = t then r else MotionRecord.settleState { r with target := t, retry := 0 }

/-- A stop-sense change reaches a record that is not Aligned (R112). -/
def MotionRecord.setSensed (v : Bool) (r : MotionRecord) : MotionRecord :=
  match r.state with
  | .aligned => { r with sensed := v }
  | _ => MotionRecord.settleState { r with sensed := v }

/-! ### Pulses (R107 to R109) -/

/-- The coil budget: K, or K / 2 rounded up under Low1 (R107). -/
def State.budget (s : State) : Nat := if s.supply.low1 then (s.config.budget + 1) / 2 else s.config.budget

/-- A pulse starts: the on-coil for a target of drawn, the off-coil for off (R108). -/
def MotionRecord.drive (pulse : Nat) (r : MotionRecord) : MotionRecord :=
  { r with state := .driving, window := some pulse, coil := some r.target }

/-- The n records at the head of the queue start their pulses (R107, R108). -/
def Motion.startPulses (m : Motion) (n pulse : Nat) : Motion where
  records := m.records.map fun r => if (m.queue.take n).contains r.key then r.drive pulse else r
  queue := m.queue.drop n
  energized := m.energized + (m.queue.take n).length

/-- How many pulses the conditions of R107 let start now. -/
def State.pulsesNow (s : State) : Nat :=
  if s.station = .awake ∧ s.supply.low2 = false then s.budget - s.motion.energized else 0

/-- The conditions of R107 are judged: pulses start one after another for the head of the queue while they hold. -/
def judgePulses (s : State) : State := s.setMotion (s.motion.startPulses s.pulsesNow s.config.pulse)

/-- Every record passes through f, and the conditions of R107 are judged. -/
def moveRecords (f : MotionRecord → MotionRecord) (s : State) : State := judgePulses (s.setMotion (s.motion.update f))

/-! ### Changes of the station state (R102, R116 to R118) -/

/-- A record as the station leaves Awake: Unaligned, retry 0; a pulse runs on, a settle window does not (R116). The time that remains
of the pulse stays in the window field of the Unaligned record (log entry 40). -/
def MotionRecord.standAside (r : MotionRecord) : MotionRecord :=
  { r with state := .unaligned, retry := 0, window := if r.coil.isSome then r.window else none }

/-- The Motion Controller at a change of the station state out of Awake (R116). -/
def standRecordsAside (s : State) : State :=
  s.setMotion { s.motion with records := s.motion.records.map MotionRecord.standAside, queue := [] }

/-- A record judged at an entry into Awake: its sensed field is taken afresh, a pulse that still runs makes it Driving (R117). -/
def MotionRecord.wake (sensed : Bool) (r : MotionRecord) : MotionRecord :=
  let state : MotionState := if r.coil.isSome then .driving else if sensed = r.target then .aligned else .queued
  { r with sensed := sensed, retry := 0, state := state }

/-- The state of a control's sense line (R104). -/
def State.sensedNow (s : State) (d i : Nat) : Bool := s.stateOfFunction (.stopSense d i)

/-- The Motion Controller at an entry into Awake, the station state already Awake (R117). -/
def wakeRecords (s : State) : State := moveRecords (fun r => r.wake (s.sensedNow r.d r.i)) s

/-- The controls with a sense line, in ascending order (R102). -/
def Configuration.sensedControls (c : Configuration) : List (Nat × Nat) :=
  (List.range c.layout.divisions).flatMap fun d =>
    ((List.range (c.controlsOf d)).filter fun i => (setAt c.sensed d).getLsbD i).map fun i => (d, i)

/-- The records made at the entry into Joining (R102). -/
def makeRecords (s : State) : State :=
  s.setMotion {
    records := s.config.sensedControls.map fun k => { d := k.1, i := k.2, target := false, sensed := s.sensedNow k.1 k.2, state := .unaligned, retry := 0, window := none, coil := none }
    queue := []
    energized := 0 }

/-- In Restarting, the report that no coil is energized is held once the count is 0 (R118). -/
def reportNoCoil (s : State) : State :=
  if s.station = .restarting ∧ s.motion.energized = 0 then s.setStart { s.start with noCoil := true } else s

/-! ### Commands -/

/-- A pulse ends: the coil is released; a Driving record becomes Settling (R109). -/
def MotionRecord.endPulse (settle : Nat) (r : MotionRecord) : MotionRecord :=
  match r.state with
  | .driving => { r with state := .settling, window := some settle, coil := none }
  | _ => { r with window := none, coil := none }

/-- PULSE_END of a control (R109). Where no pulse of it runs there is none to end (log entry 4). -/
def execPulseEnd (d i : Nat) (s : State) : Host.Outcome State Fault Refusal :=
  match s.motion.find d i with
  | some r =>
    if r.coil.isSome then
      let m := s.motion.update (onRecord d i (MotionRecord.endPulse s.config.settle))
      .next (reportNoCoil (judgePulses (s.setMotion { m with energized := m.energized - 1 })))
    else .next s
  | none => .next s

/-- The judgement at the settle end (R110). -/
def MotionRecord.judge (r : MotionRecord) : MotionRecord :=
  if r.sensed = r.target then { r with state := .aligned, retry := 0, window := none }
  else if r.retry < Config.maxRetry then { r with state := .queued, retry := r.retry + 1, window := none }
  else { r with state := .stuck, window := none }

/-- SETTLE_END of a control (R110, R111). Where no settle window of it runs there is none to end (log entry 4). -/
def execSettleEnd (d i : Nat) (s : State) : Host.Outcome State Fault Refusal :=
  match s.motion.find d i with
  | some r =>
    if r.state = .settling then
      .next (latchIf (r.judge.state == .stuck) .stopStuck (moveRecords (onRecord d i MotionRecord.judge) s))
    else .next s
  | none => .next s

/-- A Stuck record is queued again by a fault acknowledge (R115). -/
def MotionRecord.requeue (r : MotionRecord) : MotionRecord :=
  if r.state = .stuck then { r with state := .queued, retry := 0 } else r

end Sys2Proof.Machine
end

