-- ==== Sys2Proof/Machine/Image.lean ====
section
/-!
DEFINITION. The Registration Image: the stamp order, local changes, the merge of received frames, refreshes (R1 to R19).
-/

namespace Sys2Proof.Machine

/-- Stamp a is newer than stamp b (R3). -/
def newer (a b : Stamp) : Bool :=
  let difference := (a.era - b.era).toNat
  if a.era = 0#16 then false
  else if b.era = 0#16 then true
  else (1 ≤ difference && difference ≤ 32767)
    || (difference == 32768 && decide (a.origin > b.origin))
    || (difference == 32768 && a.origin == b.origin && decide (a.era.toNat > b.era.toNat))
    || (a.era == b.era && decide (a.origin > b.origin))

/-- The era after e: 65535 is followed by 1 (R5). -/
def nextEra (e : Era) : Era := if e = 0xFFFF#16 then 1#16 else e + 1#16

/-- The stamp of a local change of a division that held a stamp (R5). -/
def successor (own : Nat) (b : Stamp) : Stamp := { era := nextEra b.era, origin := own }

/-- The division of the image, unset where the image has none. -/
def State.division (s : State) (d : Nat) : Division :=
  s.image.getD d { drawn := 0#48, stamp := { era := 0#16, origin := s.link.number } }

/-- The blocks act on an image change: the Motion Controller takes the targets of the changed divisions (R16, R106). The piston
lamps and the "added" lamps are read from the state, and so follow by themselves. -/
def imageChanged (ds : List Nat) (s : State) : State :=
  moveRecords (fun r => if ds.contains r.d then r.setTarget ((s.drawn r.d).getLsbD r.i) else r) s

/-- One division of a local change: the successor stamp, the restricted set, and one urgent frame (R6 steps 1 to 3). -/
def changeDivision (s : State) (change : Nat × StopSet) : State :=
  let stamp := successor s.link.number (s.division change.1).stamp
  let drawn := s.config.restrict change.1 change.2
  handOver (.registrationChange change.1 stamp drawn) (s.setImage (s.image.set change.1 { drawn := drawn, stamp := stamp }))

/-- A local change, taken whole: the touched divisions in ascending order, then the report (R6). -/
def localChange (changes : List (Nat × StopSet)) (s : State) : State :=
  if changes.isEmpty then s else imageChanged (changes.map Prod.fst) (changes.foldl changeDivision s)

/-- A record's sets asserted over the divisions of its scope (R7, R24, R27). -/
def recallChanges (s : State) (r : Record) : List (Nat × StopSet) :=
  (s.config.divisionsIn r.scope).map fun d => (d, setAt r.sets d)

/-- A received registration frame is merged (R10, R11). -/
def mergeRegistration (d : Nat) (stamp : Stamp) (x : StopSet) (s : State) : State :=
  if s.station.inPlay ∧ d < s.image.length ∧ newer stamp (s.division d).stamp then
    imageChanged [d] (s.setImage (s.image.set d { drawn := s.config.restrict d x, stamp := stamp }))
  else s

/-- The refresh frame of a division as it stands (R14). -/
def State.refreshFrame (s : State) (d : Nat) : Frame := .registrationRefresh d (s.division d).stamp (s.division d).drawn

/-- The round-robin refresh at an expiry of the heartbeat period (R13). -/
def refreshNext (s : State) : State :=
  let t := handOver (s.refreshFrame s.refreshPointer) s
  t.setRefreshPointer (if s.refreshPointer + 1 < s.divisionCount then s.refreshPointer + 1 else 0)

/-- A refresh burst: every division in ascending order, the pointer as it was (R15). -/
def refreshBurst (s : State) : State := handOverAll ((List.range s.divisionCount).map s.refreshFrame) s

/-- The image laid out for the configuration: every set empty, every stamp (0, own number) (R1, R2). -/
def freshImage (c : Configuration) : List Division :=
  List.replicate c.layout.divisions { drawn := 0#48, stamp := { era := 0#16, origin := c.number } }

/-- A sense change of an Aligned record is a local change of its division (R8, R113). -/
def handMotion (d i : Nat) (v : Bool) (s : State) : State :=
  localChange [(d, if v then withStop (s.drawn d) i else withoutStop (s.drawn d) i)] s

/-- A stop-sense change reaches the Motion Controller (R112, R113). -/
def senseChange (d i : Nat) (v : Bool) (s : State) : State :=
  let t := moveRecords (onRecord d i (MotionRecord.setSensed v)) s
  match s.motion.find d i with
  | some r => if r.state = .aligned then handMotion d i v t else t
  | none => t

end Sys2Proof.Machine
end

