-- ==== Sys2Proof/Machine/Crescendo.lean ====
section
/-!
DEFINITION. The Crescendo Unit: the encoder, the calibration and the stage, the additions and their frames, stage and tutti
captures (R79 to R97), with the commands of the encoder.
-/

namespace Sys2Proof.Machine

/-! ### The stage (R85, R86) -/

/-- x of R85 step 1. -/
def shoePosition (c : Configuration) (p : Nat) : Nat :=
  if p ≤ c.closed then 0 else if c.opened ≤ p then 1000 else (p - c.closed) * 1000 / (c.opened - c.closed)

/-- The calibrated position y, 0 to 1000; the division of step 3 truncates toward zero (R85). -/
def calibrated (c : Configuration) (p : Nat) : Nat :=
  let x : Int := shoePosition c p
  let y := x + (c.bow * x * (1000 - x)).tdiv 250000
  (max 0 (min 1000 y)).toNat

/-- The candidate stage of a position (R86 steps 1 and 2). -/
def candidateStage (stages y : Nat) : Nat := min stages (y * (stages + 1) / 1000)

/-- The new stage from the calibrated position and the current stage (R86). -/
def selectStage (c : Configuration) (y stage : Nat) : Nat :=
  let r := candidateStage c.layout.stages y
  let rh := candidateStage c.layout.stages (min 1000 (y + c.hysteresis))
  if stage < r then r else if rh < stage then rh else stage

/-! ### Increments, additions (R88, R94, R97) -/

/-- The sets of a stage or tutti record, empty for a failed check, restricted to the configuration (R88, R94). -/
def State.setsOfSlot (s : State) (n : Nat) : Sets :=
  match newest s.memory n with
  | some c => s.config.restrictAll (unpackSets c 0)
  | none => emptySets

/-- The slots of stages 1 to k of program p. -/
def State.stageSlots (s : State) (p k : Nat) : List Nat :=
  (List.range k).map fun j => stageSlot s.bases s.config.layout p (j + 1)

/-- The cumulative set C(p, k) (R88). -/
def State.cumulative (s : State) (p k : Nat) : Sets :=
  (s.stageSlots p k).foldl (fun acc n => unionSets acc (s.setsOfSlot n)) emptySets

/-- The local additions as the present program, stage, tutti flag and memory give them (R94). -/
def State.formedAdditions (s : State) : Sets :=
  let c := s.cumulative s.crescendo.program s.crescendo.stage
  if s.crescendo.tutti then unionSets c (s.setsOfSlot Config.tuttiSlot) else c

/-- The slots read to form them. -/
def State.additionSlots (s : State) : List Nat :=
  s.stageSlots s.crescendo.program s.crescendo.stage ++ (if s.crescendo.tutti then [Config.tuttiSlot] else [])

/-- The peer is in the union: a combination station, Present or Silent, reporting Awake (R97, R151). -/
def Peer.inUnion (p : Peer) : Bool := p.kind == .combination && p.presence != .absent && p.state == .awake

/-- The contributions in the union. -/
def State.unionPeers (s : State) : List Peer := s.peers.reduceOption.filter Peer.inUnion

/-- The effective additions as their parts give them (R97). -/
def State.formedEffective (s : State) : Sets :=
  s.unionPeers.foldl (fun acc p => unionSets acc (s.config.restrictAll p.contribution.additions))
    (if s.station = .awake then s.crescendo.localAdditions else emptySets)

/-- The effective additions are formed anew, in the states that form them (R97). -/
def formEffective (s : State) : State :=
  if s.station.inPlay then s.setCrescendo { s.crescendo with effective := s.formedEffective } else s

/-- What a crescendo frame of this station carries (R95); one set for each division. -/
def State.crescendoContent (s : State) : CrescendoContent where
  program := s.crescendo.program
  stage := s.crescendo.stage
  tutti := s.crescendo.tutti
  additions := s.crescendo.localAdditions.take s.divisionCount

/-- An urgent crescendo frame is handed, and a waiting repeat brought to the same content (R95, R138). -/
def announceCrescendo (s : State) : State :=
  let t := handOver (.crescendo s.crescendoContent) s
  t.setLink { t.link with routine := replaceWaiting t.link.routine (.crescendoRepeat s.crescendoContent) }

/-- A crescendo repeat is handed (R96). -/
def handRepeat (s : State) : State := handOver (.crescendoRepeat s.crescendoContent) s

/-- Program, stage, tutti flag and local additions are as they were (R95). -/
def sameAnnouncement (a b : CrescendoUnit) : Bool :=
  a.program == b.program && a.stage == b.stage && a.tutti == b.tutti && a.localAdditions == b.localAdditions

/-- The local additions are formed anew after an event that found the unit as old: the records are read, a frame is handed if
anything differs, and the effective additions follow (R94, R95, R97). -/
def formAdditions (old : CrescendoUnit) (s : State) : State :=
  let t := noteReads s.additionSlots s
  let u := t.setCrescendo { t.crescendo with localAdditions := s.formedAdditions }
  formEffective (if sameAnnouncement old u.crescendo then u else announceCrescendo u)

/-- The stage is evaluated unless it is held; the additions are formed anew if it changes (R87). -/
def evaluateStage (s : State) : State :=
  if s.crescendo.held then s
  else
    let stage := selectStage s.config (calibrated s.config s.crescendo.count) s.crescendo.stage
    if stage = s.crescendo.stage then s else formAdditions s.crescendo (s.setCrescendo { s.crescendo with stage := stage })

/-- The stage as an evaluation at the entry into Awake leaves it (R80, R87). -/
def State.stageOnWaking (s : State) : Nat :=
  if s.crescendo.held then s.crescendo.stage
  else selectStage s.config (calibrated s.config s.crescendo.count) s.crescendo.stage

/-- The Crescendo Unit at an entry into Awake: one evaluation, the local additions and the effective additions (R80). -/
def wakeCrescendo (s : State) : State := formAdditions s.crescendo (s.setCrescendo { s.crescendo with stage := s.stageOnWaking })

/-- The reference pair is taken afresh from the lines (R80). -/
def takeReference (s : State) : State :=
  s.setCrescendo { s.crescendo with refA := s.stateOfFunction .encoderA, refB := s.stateOfFunction .encoderB }

/-! ### The encoder (R81 to R83) -/

/-- The place of a pair around the quadrature cycle (R81). -/
def phase : Bool → Bool → Nat
  | false, false => 0
  | true, false => 1
  | true, true => 2
  | false, true => 3

/-- A phase error: the fourth since the last index edge holds the stage and latches ENCODER (R82). -/
def phaseError (s : State) : State :=
  let n := s.crescendo.phaseErrors + 1
  if s.crescendo.held then s
  else if n < Config.phaseErrorLimit then s.setCrescendo { s.crescendo with phaseErrors := n }
  else latch .encoder (s.setCrescendo { s.crescendo with phaseErrors := Config.phaseErrorLimit, held := true })

/-- P takes a new value; in Awake a change of P evaluates the stage (R87). -/
def moveCount (p : Nat) (s : State) : State :=
  let t := s.setCrescendo { s.crescendo with count := p }
  if s.station = .awake ∧ p ≠ s.crescendo.count then evaluateStage t else t

/-- A hand-over of the A and B states, judged in Joining and Awake (R81). -/
def judgePair (a b : Bool) (s : State) : State :=
  if s.station = .joining ∨ s.station = .awake then
    let step := (phase a b + 4 - phase s.crescendo.refA s.crescendo.refB) % 4
    let t := s.setCrescendo { s.crescendo with refA := a, refB := b }
    match step with
    | 0 => t
    | 1 => moveCount (min Config.maxCount (s.crescendo.count + 1)) t
    | 3 => moveCount (s.crescendo.count - 1) t
    | _ => phaseError t
  else s

/-- An index edge, acted on in Joining, Awake and Dormant (R83). -/
def indexEdge (s : State) : State :=
  if s.station.inPlay then
    let t := latchIf (Config.driftLimit < s.crescendo.count) .encoder
      (s.setCrescendo { s.crescendo with count := 0, phaseErrors := 0, held := false })
    if s.station = .awake then evaluateStage t else t
  else s

/-! ### Program, tutti and the captures (R89 to R93) -/

/-- A Crescendo program press, acted on in Awake (R89). -/
def pressProgram (s : State) : State :=
  if s.station = .awake then
    formAdditions s.crescendo (s.setCrescendo { s.crescendo with program := (s.crescendo.program + 1) % 4 })
  else s

/-- Local tutti takes a value; a change forms the local additions anew (R92). -/
def setTutti (v : Bool) (s : State) : State :=
  if s.crescendo.tutti = v then s else formAdditions s.crescendo (s.setCrescendo { s.crescendo with tutti := v })

/-- The slot of the stage record the unit stands at. -/
def State.presentStageSlot (s : State) : Nat := stageSlot s.bases s.config.layout s.crescendo.program s.crescendo.stage

/-- The increment a stage capture writes: the drawn sets less C(p, k - 1) (R91). -/
def State.newIncrement (s : State) : Sets :=
  setsOf fun d => lessSet (s.drawn d) (setAt (s.cumulative s.crescendo.program (s.crescendo.stage - 1)) d)

/-- A stage capture is refused whatever the queue holds (R90). -/
def State.stageCaptureRefused (s : State) : Bool :=
  s.crescendo.program == 0 || s.crescendo.stage == 0 || s.crescendo.held || s.supply.low2

/-- The queue has an entry to give a slot (R35, R90). -/
def State.hasEntryFor (s : State) (n : Nat) : Bool :=
  admits s.memory [{ slot := n, content := 0#496, source := .capture }]

/-- A stage capture (R90, R91). -/
def captureStage (s : State) : State :=
  if s.stageCaptureRefused || !s.hasEntryFor s.presentStageSlot then refuse s
  else
    let t := noteReads (s.stageSlots s.crescendo.program (s.crescendo.stage - 1)) s
    match writeRequest [{ slot := s.presentStageSlot, content := setsContent s.newIncrement, source := .stage }] t with
    | some u => formAdditions s.crescendo u
    | none => refuse s

/-- A Crescendo set press: with Set held a stage capture, else not acted on (R90). -/
def pressCrescendoSet (s : State) : State := if s.station = .awake ∧ s.setIsHeld then captureStage s else s

/-- A tutti capture (R93). -/
def captureTutti (s : State) : State :=
  if s.supply.low2 then refuse s
  else
    match writeRequest [{ slot := Config.tuttiSlot, content := setsContent s.drawnSets, source := .tutti }] s with
    | some t => if s.crescendo.tutti then formAdditions s.crescendo t else t
    | none => refuse s

/-- A Tutti press, acted on in Awake: with Set held a capture, else a toggle (R92, R93). -/
def pressTutti (s : State) : State :=
  if s.station = .awake then
    if s.setIsHeld then captureTutti s else setTutti (!s.crescendo.tutti) s
  else s

/-- The repeat count at an expiry of the heartbeat period (R96). -/
def countRepeat (s : State) : State :=
  if s.crescendo.repeatCount + 1 < Config.repeatPeriods then
    s.setCrescendo { s.crescendo with repeatCount := s.crescendo.repeatCount + 1 }
  else handRepeat (s.setCrescendo { s.crescendo with repeatCount := 0 })

end Sys2Proof.Machine
end

