-- ==== Sys2Proof/Machine/Recall.lean ====
section
/-!
DEFINITION. The Recall Unit: recalls, cancels, captures, levels and protection (R20 to R45). What it does with each event, given
that the event reaches it.
-/

namespace Sys2Proof.Machine

/-- The slot of a piston of the current level (R24, R26). -/
def State.slotOfPiston (s : State) (p : Piston) : Nat := pistonSlot s.bases s.config.layout s.recallUnit.level p

/-- The live piston and its snapshot (R41). -/
def setLive (p : Piston) (r : Record) (s : State) : State :=
  s.setRecallUnit { s.recallUnit with live := some (s.recallUnit.level, p), snapshot := some r }

/-- No live piston, no snapshot (R41). -/
def clearLive (s : State) : State := s.setRecallUnit { s.recallUnit with live := none, snapshot := none }

/-- A piston of the current level is recalled, or refused where its slot fails its check (R24 to R27). -/
def recallPiston (p : Piston) (s : State) : State :=
  match newest s.memory (s.slotOfPiston p) with
  | some c => localChange (recallChanges s (recordOf c)) (setLive p (recordOf c) s)
  | none => answer (.piston p) 3 (latch .memoryCheck s)

/-- A capture is refused whatever the queue holds: a protected level without override, or Low2 (R35). -/
def State.captureRefused (s : State) : Bool := (s.levelProtected && !s.overrideActive) || s.supply.low2

/-- A record is captured onto a piston of the current level, or refused (R35, R36). -/
def capturePiston (p : Piston) (r : Record) (s : State) : State :=
  if s.captureRefused then refuse s
  else
    match writeRequest [{ slot := s.slotOfPiston p, content := Record.content r, source := .capture }] s with
    | some t => setLive p r t
    | none => refuse s

/-- The divisions whose cancel count is above 0 (R20, R32). -/
def State.excluded (s : State) (d : Nat) : Bool := 0 < s.recallUnit.cancelCounts.getD d 0

/-- The captured scope of a general: the configured scope less the exclusion set (R33). -/
def State.captureScope (s : State) : DivisionSet :=
  BitVec.ofNat 8 (((List.range 8).filter fun d => s.config.scope.getLsbD d && !s.excluded d).map (2 ^ ·)).sum

/-- The record of a capture with a scope (R33, R34). -/
def State.capturedRecord (s : State) (scope : DivisionSet) : Record where
  scope := scope
  sets := setsOf fun d => if scope.getLsbD d then s.drawn d else 0#48

/-- A General piston press (R24, R33). -/
def pressGeneral (g : Nat) (s : State) : State :=
  if s.station = .awake then
    let t := localEvent s
    if s.setIsHeld then capturePiston (.general g) (s.capturedRecord s.captureScope) t else recallPiston (.general g) t
  else s

/-- A Divisional piston press (R26, R34). -/
def pressDivisional (d n : Nat) (s : State) : State :=
  if s.station = .awake then
    let t := localEvent s
    if s.setIsHeld then capturePiston (.divisional d n) (s.capturedRecord (BitVec.ofNat 8 (2 ^ d))) t
    else recallPiston (.divisional d n) t
  else s

/-- General cancel: every division emptied, local tutti off, no live piston (R29). The registration frames are handed before the
crescendo frame (log entry 38). -/
def cancelAll (s : State) : State :=
  clearLive (setTutti false (localChange ((List.range s.divisionCount).map fun d => (d, 0#48)) s))

/-- A General cancel press (R29). -/
def pressGeneralCancel (s : State) : State := if s.station = .awake then cancelAll (localEvent s) else s

/-- The cancel count of a division takes a value. -/
def setCancelCount (d n : Nat) (s : State) : State :=
  s.setRecallUnit { s.recallUnit with cancelCounts := s.recallUnit.cancelCounts.set d n }

/-- A Division cancel press (R30, R32). -/
def pressDivisionCancel (d : Nat) (s : State) : State :=
  if s.station = .awake then
    let t := setCancelCount d (s.recallUnit.cancelCounts.getD d 0 + 1) (localEvent s)
    if s.setIsHeld then t else localChange [(d, 0#48)] t
  else s

/-- A Division cancel release (R30). -/
def releaseDivisionCancel (d : Nat) (s : State) : State :=
  if s.station = .awake then setCancelCount d (s.recallUnit.cancelCounts.getD d 0 - 1) (localEvent s) else s

/-- The Set count takes a value. -/
def setSetCount (n : Nat) (s : State) : State := s.setRecallUnit { s.recallUnit with setCount := n }

/-- A Set press (R31). -/
def pressSet (s : State) : State :=
  if s.station = .awake then setSetCount (s.recallUnit.setCount + 1) (localEvent s) else s

/-- A Set release (R31). -/
def releaseSet (s : State) : State :=
  if s.station = .awake then setSetCount (s.recallUnit.setCount - 1) (localEvent s) else s

/-! ### Levels (R22, R23, R69) -/

/-- The sequence slots of a level, in ascending order (R52). -/
def State.sequenceSlots (s : State) (level : Nat) : List Nat :=
  (List.range s.config.layout.sequenceSlots).map fun j => sequenceSlot s.bases s.config.layout level j

/-- The sixteen entries of a sequence slot; a failed slot is sixteen entries of "none" (R69). -/
def State.entriesOfSlot (s : State) (n : Nat) : List (Option SequenceStep) :=
  match newest s.memory n with
  | some c => (List.range 16).map (stepAt c)
  | none => List.replicate 16 none

/-- The steps before the first "none" (R69). -/
def stepsBeforeNone : List (Option SequenceStep) → List SequenceStep
  | some x :: rest => x :: stepsBeforeNone rest
  | _ => []

/-- The list stored for a level (R69). -/
def State.storedSteps (s : State) (level : Nat) : List SequenceStep :=
  stepsBeforeNone ((s.sequenceSlots level).flatMap s.entriesOfSlot)

/-- The Sequencer loads a level's list, cursor 0 (R69). -/
def loadLevel (level : Nat) (s : State) : State :=
  (noteReads (s.sequenceSlots level) s).setSequencer { steps := s.storedSteps level, cursor := 0 }

/-- A level change (R23). -/
def changeLevel (level : Nat) (s : State) : State :=
  loadLevel level (s.setRecallUnit { s.recallUnit with level := level, live := none, snapshot := none })

/-- A Level up press (R22). -/
def pressLevelUp (s : State) : State :=
  if s.station = .awake then
    let t := localEvent s
    if s.recallUnit.level < s.config.layout.levels then changeLevel (s.recallUnit.level + 1) t else t
  else s

/-- A Level down press (R22). -/
def pressLevelDown (s : State) : State :=
  if s.station = .awake then
    let t := localEvent s
    if 1 < s.recallUnit.level then changeLevel (s.recallUnit.level - 1) t else t
  else s

/-! ### Protection (R38, R39) -/

/-- The content of slot 28 for the flags; those of levels above L are written open (R48, R174). -/
def protectionContent (levels : Nat) (flags : BitVec 128) : Content := placed 0 (flags &&& BitVec.ofNat 128 (2 ^ levels - 1))

/-- The flags with a level's flag toggled. -/
def toggled (flags : BitVec 128) (level : Nat) : BitVec 128 := flags ^^^ BitVec.ofNat 128 (2 ^ (level - 1))

/-- A Protect press (R39). -/
def pressProtect (s : State) : State :=
  if s.station = .awake then
    let flags := toggled s.recallUnit.protection s.recallUnit.level
    if s.overrideActive then
      match writeRequest [{ slot := Config.protectionSlot, content := protectionContent s.config.layout.levels flags, source := .protection }] s with
      | some t => t.setRecallUnit { t.recallUnit with protection := flags }
      | none => refuse s
    else refuse s
  else s

/-- The release of a piston, General cancel or level line: in Awake it is a local event and nothing more (R45, R62). That such a
release counts among the events of R45 is log entry 42. -/
def reportRelease (s : State) : State := if s.station = .awake then localEvent s else s

/-- The Recall Unit at a change of the station state out of Awake (R21). -/
def dropCounts (s : State) : State :=
  s.setRecallUnit { s.recallUnit with setCount := 0, cancelCounts := List.replicate s.divisionCount 0 }

end Sys2Proof.Machine
end

