-- ==== Sys2Proof/Machine/Sequencer.lean ====
section
/-!
DEFINITION. The Sequencer: stepping, inserting and deleting (R67 to R76).
-/

namespace Sys2Proof.Machine

/-- A step names a piston the configuration defines (R68). -/
def State.stepInRange (s : State) : SequenceStep → Bool
  | .general g => 1 ≤ g && g ≤ s.config.layout.generals
  | .divisional d n => d < s.divisionCount && 1 ≤ n && n ≤ s.config.layout.divisionalsOf d
  | .generalCancel => true

/-- The Recall Unit takes a step as a press with Set not held (R28). -/
def takeStep (x : SequenceStep) (s : State) : State :=
  match x with
  | .general g => recallPiston (.general g) (localEvent s)
  | .divisional d n => recallPiston (.divisional d n) (localEvent s)
  | .generalCancel => cancelAll (localEvent s)

/-- The step at the cursor is performed; a step out of range recalls nothing (R73). -/
def performStep (s : State) : State :=
  match s.sequencer.steps[s.sequencer.cursor - 1]? with
  | some x => if s.stepInRange x then takeStep x s else s
  | none => s

/-- The cursor moves. -/
def setCursor (n : Nat) (s : State) : State := s.setSequencer { s.sequencer with cursor := n }

/-- Next without Set (R71). -/
def stepNext (s : State) : State :=
  if s.sequencer.cursor < s.sequencer.steps.length then performStep (setCursor (s.sequencer.cursor + 1) s)
  else answer .sequencerEnd 2 s

/-- Previous without Set (R72). -/
def stepPrevious (s : State) : State :=
  if 1 < s.sequencer.cursor then performStep (setCursor (s.sequencer.cursor - 1) s) else s

/-- The step an insert makes of the live piston (R74 step 1). -/
def State.insertedStep (s : State) : SequenceStep :=
  match s.recallUnit.live with
  | some (_, .general g) => .general g
  | some (_, .divisional d n) => .divisional d n
  | none => .generalCancel

/-- The write request of an edit: slots first to last of the current level, formed whole from the new list (R76). -/
def State.editRequest (s : State) (steps : List SequenceStep) (first last : Nat) : List WriteEntry :=
  (List.range (last + 1 - first)).map fun k =>
    { slot := sequenceSlot s.bases s.config.layout s.recallUnit.level (first + k), content := sequenceContent steps (first + k), source := .sequence }

/-- An edit is refused on a protected level without override (R74, R75). -/
def State.editBarred (s : State) : Bool := s.levelProtected && !s.overrideActive

/-- An edit to a new list and cursor, its slots first to last written, or refused where the queue cannot take them (R74 to
R76). -/
def edit (steps : List SequenceStep) (cursor first last : Nat) (s : State) : State :=
  match writeRequest (s.editRequest steps first last) s with
  | some t => t.setSequencer { steps := steps, cursor := cursor }
  | none => refuse s

/-- Next under Set: an insert (R74). -/
def insertStep (s : State) : State :=
  let c := s.sequencer.cursor
  if s.config.layout.steps ≤ s.sequencer.steps.length ∨ s.editBarred then refuse s
  else edit (s.sequencer.steps.insertIdx c s.insertedStep) (c + 1) (c / 16) (s.sequencer.steps.length / 16) s

/-- Previous under Set: a delete (R75). -/
def deleteStep (s : State) : State :=
  let c := s.sequencer.cursor
  if c = 0 ∨ s.editBarred then refuse s
  else edit (s.sequencer.steps.eraseIdx (c - 1)) (c - 1) ((c - 1) / 16) ((s.sequencer.steps.length - 1) / 16) s

/-- A Sequencer next press (R70). -/
def pressNext (s : State) : State :=
  if s.station = .awake then if s.setIsHeld then insertStep s else stepNext s else s

/-- A Sequencer previous press (R70). -/
def pressPrevious (s : State) : State :=
  if s.station = .awake then if s.setIsHeld then deleteStep s else stepPrevious s else s

end Sys2Proof.Machine
end

