-- ==== Sys2Proof/Machine/Peers.lean ====
section
/-!
DEFINITION. The Peer Table: records, presence, the judgement of heartbeats, contributions (R147 to R152), with the commands of
the ages.
-/

namespace Sys2Proof.Machine

/-- The kind a heartbeat's kind byte names (R147, R173). -/
def peerKindOf : Nat → PeerKind
  | 1 => .combination
  | 2 => .chamber
  | 3 => .serviceTool
  | _ => .other

/-- Stage 0, tutti off, every addition set empty (R148, R151). -/
def emptyContribution : Contribution where
  stage := 0
  tutti := false
  additions := []

/-- A record taken for a sender (R148). -/
def newPeer (origin : Nat) (h : HeartbeatContent) : Peer where
  station := origin
  kind := peerKindOf h.kind
  state := h.state
  presence := .present
  age := 0
  sequence := h.sequence
  gapRun := 0
  cleanRun := 0
  alert := false
  cause := h.cause
  contribution := emptyContribution

/-- The taken record of a station and kind (R148). -/
def peerIndex (peers : List (Option Peer)) (origin : Nat) (kind : PeerKind) : Option Nat :=
  peers.findIdx? fun p => p.any fun r => r.station == origin && r.kind == kind

/-- Absent record a goes before b: the greater age, then the lower station number (R148 rule 2). -/
def takenBefore (a b : Peer) : Bool := b.age < a.age || (a.age == b.age && a.station < b.station)

/-- The Absent record to take over, by place, from place n on; the earlier place where two agree in age and number (log entry
21). -/
def oldestAbsent : List (Option Peer) → Nat → Option (Nat × Peer)
  | [], _ => none
  | none :: rest, n => oldestAbsent rest (n + 1)
  | some p :: rest, n =>
    if p.presence = .absent then
      match oldestAbsent rest (n + 1) with
      | some (k, q) => if takenBefore q p then some (k, q) else some (n, p)
      | none => some (n, p)
    else oldestAbsent rest (n + 1)

/-- The place a new sender takes: the lowest-numbered free record, else the Absent record of rule 2 (R148). -/
def placeFor (peers : List (Option Peer)) : Option Nat :=
  match peers.findIdx? Option.isNone with
  | some n => some n
  | none => (oldestAbsent peers 0).map Prod.fst

/-- The reports of a peer that has become Present, and of a peer start: a refresh burst and a crescendo repeat (R150, R151). -/
def reportArrival (s : State) : State := handRepeat (refreshBurst s)

/-- The heartbeat marks a peer start (R151 step 1). -/
def marksStart (p : Peer) (h : HeartbeatContent) : Bool := h.startFlag || h.cause != p.cause

/-- The sequence after n, 15 followed by 0 (R146). -/
def nextSequence (n : Nat) : Nat := (n + 1) % 16

/-- A gap in the sequence (R151 step 2). -/
def Peer.gap (p : Peer) : Peer :=
  let run := min 3 (p.gapRun + 1)
  { p with gapRun := run, cleanRun := 0, alert := p.alert || run == 3 }

/-- A heartbeat in sequence (R151 step 2). -/
def Peer.clean (p : Peer) : Peer :=
  if p.alert then
    if p.cleanRun + 1 < 8 then { p with gapRun := 0, cleanRun := p.cleanRun + 1 }
    else { p with gapRun := 0, cleanRun := 0, alert := false }
  else { p with gapRun := 0 }

/-- Steps 1 and 2 of R151 on a record. -/
def Peer.judge (p : Peer) (h : HeartbeatContent) : Peer :=
  if marksStart p h then { p with gapRun := 0, cleanRun := 0, contribution := emptyContribution }
  else if p.presence = .absent then p
  else if h.sequence = nextSequence p.sequence then p.clean
  else p.gap

/-- Step 3 of R151 on a record. -/
def Peer.record (p : Peer) (h : HeartbeatContent) : Peer :=
  { p with sequence := h.sequence, state := h.state, cause := h.cause, age := 0, presence := .present }

/-- A heartbeat of an existing record (R149, R150, R151). The effective additions are formed anew at its end (log entry 22). -/
def matchedHeartbeat (n : Nat) (p : Peer) (h : HeartbeatContent) (s : State) : State :=
  let q := p.judge h
  let t := s.setPeers (s.peers.set n (some (q.record h)))
  let u := latchIf (q.alert && !p.alert) .linkQuality t
  formEffective (if marksStart p h || p.presence != .present then reportArrival u else u)

/-- A heartbeat of a sender without a record (R148). -/
def unknownHeartbeat (origin : Nat) (h : HeartbeatContent) (s : State) : State :=
  match placeFor s.peers with
  | some n => formEffective (reportArrival (s.setPeers (s.peers.set n (some (newPeer origin h)))))
  | none => latch .peerTableFull s

/-- A heartbeat handed to the Peer Table (R148, R151). -/
def takeHeartbeat (origin : Nat) (h : HeartbeatContent) (s : State) : State :=
  if s.station.inPlay then
    match peerIndex s.peers origin (peerKindOf h.kind) with
    | some n =>
      match s.peers.getD n none with
      | some p => matchedHeartbeat n p h s
      | none => s
    | none => unknownHeartbeat origin h s
  else s

/-- A crescendo frame or repeat handed to the Peer Table (R152). -/
def takeContribution (origin : Nat) (c : CrescendoContent) (s : State) : State :=
  if s.station.inPlay then
    match peerIndex s.peers origin .combination with
    | some n =>
      match s.peers.getD n none with
      | some p =>
        formEffective (s.setPeers (s.peers.set n (some { p with contribution := { stage := c.stage, tutti := c.tutti, additions := c.additions } })))
      | none => s
    | none => s
  else s

/-! ### Ages (R149) -/

/-- The taken record of a place. -/
def State.peerAt (s : State) (n : Nat) : Option Peer := s.peers.getD n none

/-- PEER_SILENT: the age of a Present record reaches 750 ms (R149). -/
def execPeerSilent (n : Nat) (s : State) : Host.Outcome State Fault Refusal :=
  match s.peerAt n with
  | some p =>
    if s.station.inPlay ∧ p.presence = .present then
      .next (s.setPeers (s.peers.set n (some { p with presence := .silent, age := max p.age Config.silentMs })))
    else .next s
  | none => .next s

/-- A record that becomes Absent (R149). -/
def Peer.leave (p : Peer) : Peer :=
  { p with presence := .absent, age := max p.age Config.absentMs, alert := false, gapRun := 0, cleanRun := 0 }

/-- PEER_ABSENT: the age of a Silent record reaches 2000 ms (R149). A combination peer leaves the union and latches PEER_LOST. -/
def execPeerAbsent (n : Nat) (s : State) : Host.Outcome State Fault Refusal :=
  match s.peerAt n with
  | some p =>
    if s.station.inPlay ∧ p.presence = .silent then
      let t := s.setPeers (s.peers.set n (some p.leave))
      .next (formEffective (latchIf (p.kind == .combination) .peerLost t))
    else .next s
  | none => .next s

end Sys2Proof.Machine
end

