-- ==== Sys2Proof/Machine/Panel.lean ====
section
/-!
DEFINITION. What the station shows: the meaning of every indicator, what the lamp chain carries in each station state, the coil
channels, and what the station puts on the organ link (R42, R43, R77, R78, R98 to R101, R108, R132, R133, R161, R164).
-/

namespace Sys2Proof.Machine

/-- The image still holds the snapshot over its scope (R42). -/
def State.snapshotHolds (s : State) (r : Record) : Bool :=
  (s.config.divisionsIn r.scope).all fun d => s.drawn d == s.config.restrict d (setAt r.sets d)

/-- The piston whose lamp is lit (R42). -/
def State.litPiston (s : State) : Option Piston :=
  match s.recallUnit.live, s.recallUnit.snapshot with
  | some (_, p), some r => if s.snapshotHolds r then some p else none
  | _, _ => none

/-- The controls whose "added" lamps are lit (R98). -/
def State.addedLamps (s : State) : Sets :=
  setsOf fun d => lessSet (setAt s.crescendo.effective d) (s.drawn d) &&& setAt s.config.sensed d

/-- The greatest stage of the peers in the union, 0 where there is none (R99). -/
def State.peerStage (s : State) : Nat := s.unionPeers.foldl (fun n p => max n p.contribution.stage) 0

/-- The stage display: the figure, and whether the station's own stage is shown as held (R99). -/
def State.stageDisplay (s : State) : Nat × Bool :=
  if s.station = .awake then (max s.crescendo.stage s.peerStage, s.crescendo.held && s.peerStage ≤ s.crescendo.stage)
  else (s.peerStage, false)

/-- The tutti lamp (R100). -/
def State.tuttiLamp (s : State) : Bool :=
  (s.crescendo.tutti && s.station == .awake) || s.unionPeers.any (·.contribution.tutti)

/-- The fault lamp as the latched flags give it (R161). -/
def State.faultLamp (s : State) : Bool := s.faults &&& s.routes.lamp != 0#16

/-- The fault output line as the latched flags give it (R132, R161). -/
def State.faultLine (s : State) : Bool := s.faults &&& s.routes.line != 0#16

/-- The meaning of every indicator, as its owner gives it in Joining, Awake and Dormant. -/
def State.meaning (s : State) : Panel where
  piston := s.litPiston
  set := s.setIsHeld
  level := some s.recallUnit.level
  protect := s.levelProtected
  sequencer := some s.sequencer.cursor
  sequencerEnd := s.sequencer.cursor == s.sequencer.steps.length && 1 ≤ s.sequencer.steps.length
  added := s.addedLamps
  stage := some s.stageDisplay
  tutti := s.tuttiLamp
  program := some s.crescendo.program
  fault := s.faultLamp
  faultLine := s.faultLine

/-- What the indicators and the fault line show, lamp answers apart, in each station state (R161, R164). In Start they keep what
they had; the fault outputs are driven anew when Start is left (R163; log entry 15). -/
def State.panel (s : State) : Panel :=
  match s.station with
  | .joining | .awake | .dormant => s.meaning
  | .unconfigured | .service => { darkPanel with fault := s.faultLamp, faultLine := s.faultLine }
  | .start | .restarting => s.held
  | .off => darkPanel

/-- What a lamp shows: lit, dark, or an answer of n blinks that runs (R44). -/
inductive Shown where
  | dark
  | lit
  | blinking (n : Nat)
  deriving DecidableEq, Repr

/-- Whether a lamp's own meaning has it lit. -/
def State.lampLit (s : State) : Lamp → Bool
  | .piston p => s.panel.piston == some p
  | .set => s.panel.set
  | .sequencerEnd => s.panel.sequencerEnd

/-- What a lamp that gives answers shows: an answer while one runs on it, else its meaning (R44). -/
def State.lamp (s : State) (l : Lamp) : Shown :=
  match s.answers.find? fun a => a.lamp == l with
  | some a => .blinking a.blinks
  | none => if s.lampLit l then .lit else .dark

/-- The coil channel of a control that is active: true for the on-coil (R108). -/
def State.coil (s : State) (d i : Nat) : Option Bool := (s.motion.find d i).bind (·.coil)

/-- The bytes of the frame the station is sending (R133, R172). -/
def State.lineBytes (s : State) : List Byte := s.link.outgoing.elim [] (frameBytes s.link.number)

/-- The bit times of the frame the station is sending, true for released (R133). -/
def State.lineBits (s : State) : List Bool := s.lineBytes.flatMap byteBits

/-- LAMP_ANSWER_END: the blinks of an answer end, and the lamp shows its meaning (R44). -/
def execLampAnswerEnd (l : Lamp) (s : State) : Host.Outcome State Fault Refusal :=
  .next (s.setAnswers (s.answers.filter fun a => a.lamp != l))

end Sys2Proof.Machine
end

