-- ==== Sys2Proof/Machine/Start.lean ====
section
/-!
DEFINITION. The Start Controller: entries into the station states, power, the configuration check, the heartbeat, join end and
the power-return policy (R146, R153 to R155, R165 to R170), with their commands.
-/

namespace Sys2Proof.Machine

/-! ### The heartbeat (R146) -/

/-- The state a heartbeat reports. -/
def reportedState : Station → ReportedState
  | .awake => .awake
  | .dormant => .dormant
  | .unconfigured => .unconfigured
  | .service => .service
  | .joining | .start | .restarting | .off => .joining

/-- The heartbeat of this moment; its progress goes out in Service only (R65, R146). -/
def State.heartbeatContent (s : State) : HeartbeatContent where
  kind := 1
  state := reportedState s.station
  startFlag := 0 < s.start.flagsLeft
  cause := s.start.cause
  sequence := s.start.sequence
  summary := s.faults
  progress := if s.station = .service then some (s.memory.clearSettled, s.memory.clearTotal) else none

/-- A heartbeat is handed; the next carries the next sequence (R146). -/
def handHeartbeat (s : State) : State :=
  let t := handOver (.heartbeat s.heartbeatContent) s
  t.setStart { t.start with sequence := (t.start.sequence + 1) % 16, flagsLeft := t.start.flagsLeft - 1 }

/-- The heartbeat period runs in Joining, Awake, Dormant, Unconfigured and Service (R146). -/
def Station.heartbeats : Station → Bool
  | .joining | .awake | .dormant | .unconfigured | .service => true
  | _ => false

/-- HEARTBEAT_PERIOD: every 250 ms a heartbeat, and in Joining, Awake and Dormant the round-robin refresh and the count of the
crescendo repeats, in that order (R13, R96, R146; log entry 13). -/
def execHeartbeatPeriod (s : State) : Host.Outcome State Fault Refusal :=
  .next (if s.station.heartbeats then
    let t := handHeartbeat (s.setStart { s.start with heartbeatMs := 0 })
    if s.station.inPlay then countRepeat (refreshNext t) else t
  else s)

/-! ### Start and power (R165, R166) -/

/-- The station as every start finds it: each block at its start values; the array, the supply conditions, the held
indicators and the waiting commands stay (R156, R163, R164, R166). -/
def startState (cause : StartCause) (s : State) : State :=
  { State.reset with
    pending := s.pending
    start := { State.reset.start with cause := cause }
    memory := { State.reset.memory with cells := s.memory.cells }
    supply := s.supply
    faults := supplyFaults s.supply
    held := s.held }

/-- The conditions the first comparison brings into force from released (R156). -/
def firstComparison (mv : Nat) : Supply where
  low1 := mv < Config.low1Entry
  low2 := mv < Config.low2Entry

/-- POWER_ON: the supply is judged first, every indicator is dark, the station enters Start (R156, R164 to R166). -/
def execPowerOn (mv : Nat) (s : State) : Host.Outcome State Fault Refusal :=
  .next (if s.station = .off then startState .powerOn ((s.setSupply (firstComparison mv)).setHeld darkPanel) else s)

/-- The array after a loss of power: the slot whose write was cut short holds what the operand says, one of the three cases of
R46. -/
def cellsAfterLoss (torn : TornWrite) (m : MemoryController) : Memory :=
  match m.flight with
  | some f => writeSlotImage m.cells f.slot (tornSlot (readSlotImage m.cells f.slot) f.content torn)
  | none => m.cells

/-- LOSS_OF_POWER: everything but the array is lost (R46, R60, R118, R145, R165). -/
def execLossOfPower (torn : TornWrite) (s : State) : Host.Outcome State Fault Refusal :=
  .next (if s.station = .off then s else
    { State.reset with
      pending := s.pending
      station := .off
      memory := { State.reset.memory with cells := cellsAfterLoss torn s.memory } })

/-- START_AFTER_RESTARTING: both drain reports are held (R170). The frames still queued are lost (R145). -/
def execStartAfterRestarting (s : State) : Host.Outcome State Fault Refusal :=
  .next (if s.station = .restarting ∧ s.start.drained = true ∧ s.start.noCoil = true then startState s.start.cause s else s)

/-! ### Restarting (R61, R116, R118, R170) -/

/-- The blocks stop: the clear ends at its write in flight, the records stand aside, the counts drop (R21, R65, R116). -/
def stopBlocks (s : State) : State :=
  dropCounts (standRecordsAside (s.setMemory { s.memory with clear := none }))

/-- The station enters Restarting, unless it is already restarting or without power (R130, R165, R170). A clear's next write
does not begin; entries left behind it are written in their turn. Entered from Start before the identity was fixed, it leaves the
station number as it stands (log entry 39). -/
def enterRestarting (cause : StartCause) (s : State) : State :=
  if s.station = .off ∨ s.station = .restarting then s
  else
    let t := stopBlocks (s.setHeld s.panel)
    let u := (t.setStation .restarting).setStart { t.start with cause := cause, drained := false, noCoil := false }
    reportNoCoil (reportDrained (beginWrite (discardWaiting u)))

/-! ### Awake and Dormant (R80, R116, R117, R155) -/

/-- The last registration is saved under the Last policy; a request the queue cannot take is dropped (R155). -/
def saveLastRegistration (s : State) : State :=
  if s.config.policy = .last then
    (writeRequest [{ slot := Config.lastRegistrationSlot, content := setsContent s.drawnSets, source := .lastRegistration }] s).getD s
  else s

/-- The station enters Dormant (R21, R80, R116, R155). -/
def enterDormant (s : State) : State :=
  saveLastRegistration (formEffective (dropCounts (standRecordsAside (s.setStation .dormant))))

/-- The station enters Awake (R80, R117). -/
def enterAwake (s : State) : State := wakeCrescendo (wakeRecords (s.setStation .awake))

/-- The Start Controller judges the console's state at a Console key change (R129). -/
def judgeConsole (s : State) : State :=
  match s.station with
  | .awake => if s.consoleOn then s else enterDormant s
  | .dormant => if s.consoleOn then enterAwake (takeReference s) else s
  | _ => s

/-! ### Join end (R154) -/

/-- The divisions whose held era is still 0 (R154 step 1). -/
def State.unsetDivisions (s : State) : List Nat :=
  (List.range s.divisionCount).filter fun d => (s.division d).stamp.era == 0#16

/-- The slot of general N of level 1 (R154). -/
def State.returnSlot (s : State) : Nat := pistonSlot s.bases s.config.layout 1 (.general s.config.returnGeneral)

/-- The local change the power-return policy makes (R154). -/
def State.policyChanges (s : State) : List (Nat × StopSet) :=
  match s.config.policy with
  | .keep => []
  | .cancel => s.unsetDivisions.map fun d => (d, 0#48)
  | .last =>
    let sets := match newest s.memory Config.lastRegistrationSlot with
      | some c => unpackSets c 0
      | none => emptySets
    s.unsetDivisions.map fun d => (d, setAt sets d)
  | .general =>
    match newest s.memory s.returnSlot with
    | some c => (s.unsetDivisions.filter fun d => (recordOf c).scope.getLsbD d).map fun d => (d, setAt (recordOf c).sets d)
    | none => []

/-- The slots the policy reads. -/
def State.policyReads (s : State) : List Nat :=
  match s.config.policy with
  | .last => [Config.lastRegistrationSlot]
  | .general => [s.returnSlot]
  | .cancel | .keep => []

/-- The policy is applied (R154 step 2). -/
def applyPolicy (s : State) : State := localChange s.policyChanges (noteReads s.policyReads s)

/-- JOIN_END: the policy, then Awake or Dormant (R154). The join timer runs in Joining alone. -/
def execJoinEnd (s : State) : Host.Outcome State Fault Refusal :=
  .next (if s.station = .joining then
    let t := applyPolicy (s.setStart { s.start with joinMs := Config.joinMs })
    if t.consoleOn then enterAwake t else enterDormant t
  else s)

/-! ### The configuration check (R136, R166, R167) -/

/-- The link identity slot 0 gives, or station 1 at 125 kbit/s (R136). -/
def identityOf (slot0 : Option Content) : Nat × Rate :=
  match slot0 with
  | some c => if identityOk c then (Content.number c 0, if Content.number c 1 = 1 then .k125 else .k250) else (1, .k125)
  | none => (1, .k125)

/-- The Link Controller's identity is fixed (R136). -/
def fixIdentity (s : State) : State :=
  let id := identityOf (newest s.memory 0)
  s.setLink { s.link with number := id.1, rate := id.2 }

/-- The station enters Service or Unconfigured and hands its first heartbeat (R146, R168). -/
def enterUnplayed (station : Station) (s : State) : State :=
  handHeartbeat ((s.setStation station).setStart { s.start with heartbeatMs := 0 })

/-- The level of line n at the first sample, after its polarity (R120, R122). -/
def firstSample (c : Configuration) (contacts : BitVec 384) : List LineState :=
  c.table.mapIdx fun n e => { qualified := contacts.getLsbD n != e.inverted, run := 0 }

/-- The protection flags slot 28 gives; a failed slot gives every level open (R38). -/
def flagsOf (slot28 : Option Content) : BitVec 128 := (slot28.getD 0#496).setWidth 128

/-- What an accepted configuration brings into force: the copy, the partition, the first samples, the image, the levels and
their flags (R1, R20, R49, R122, R166 step 5). -/
def acceptConfiguration (c : Configuration) (contacts : BitVec 384) (s : State) : State :=
  let t := (s.setCfg (some c)).setMemory { s.memory with partition := some (partitionOf c.layout), idle := 0 }
  let u := (t.setScanner { t.scanner with lines := firstSample c contacts }).setImage (freshImage c)
  u.setRecallUnit { u.recallUnit with cancelCounts := List.replicate c.layout.divisions 0, protection := flagsOf (newest s.memory Config.protectionSlot) }

/-- The station enters Joining: the notices of kinds latched in Start, the first heartbeat, the timers from 0, the motion
records, the reference pair and the list of level 1 (R80, R102, R146, R160, R166; log entry 14). -/
def enterJoining (s : State) : State :=
  let t := noticesAtStartEnd ((s.setStation .joining).setStart { s.start with joinMs := 0, heartbeatMs := 0 })
  loadLevel 1 (formEffective (takeReference (makeRecords (handHeartbeat t))))

/-- The steps of Start once the strap has given its qualified state (R166). -/
def leaveStart (strap : Bool) (contacts : BitVec 384) (s : State) : State :=
  if strap then enterUnplayed .service (fixIdentity (noteReads [0] s))
  else
    let t := fixIdentity (noteReads (List.range 32) s)
    match checkConfiguration (newest s.memory) with
    | some c => enterJoining (acceptConfiguration c contacts t)
    | none => enterUnplayed .unconfigured (latch .config t)

/-- CONFIGURATION_CHECK: the operand is the raw level of the 384 contacts, true for closed (R119, R122, R166). Until the strap has
given its qualified state, Start waits (R131). -/
def execConfigurationCheck (contacts : BitVec 384) (s : State) : Host.Outcome State Fault Refusal :=
  .next (if s.station = .start then
    match s.scanner.strap.qualified with
    | some strap => leaveStart strap contacts s
    | none => s
  else s)

end Sys2Proof.Machine
end

