-- ==== Sys2Proof/Machine/Service.lean ====
section
/-!
DEFINITION. Service requests and their replies (R66, R169).
-/

namespace Sys2Proof.Machine

/-- A service reply is handed (R169). -/
def reply (request slot : Nat) (result : ReplyResult) (content : Option Content) (s : State) : State :=
  handOver (.serviceReply request slot result content) s

/-- A Configuration read, in every state but Start (R66, R169, R173). The notice of a failed check is handed before the reply (log
entry 41). -/
def serviceRead (slot : Nat) (s : State) : State :=
  if 31 < slot then reply 8 slot .outOfRange none s
  else
    match newest s.memory slot with
    | some c => reply 8 slot .content (some c) s
    | none => reply 8 slot .failedCheck none (latch .memoryCheck s)

/-- A write of one slot with source "service": admitted in Service, refused elsewhere; limit is the greatest slot the request may
name (R66, R169). In Restarting the reply is dropped with every hand-over (R145). -/
def serviceWrite (request limit slot : Nat) (content : Content) (s : State) : State :=
  if s.station = .service then
    if limit < slot then reply request slot .outOfRange none s
    else
      match writeRequest [{ slot := slot, content := content, source := .service request }] s with
      | some t => t
      | none => reply request slot .queueFull none s
  else reply request slot .notInService none s

/-- A Memory clear request (R64, R169). -/
def serviceClear (s : State) : State :=
  if s.station = .service then
    let t := if s.memory.clear.isNone then noteReads [1, 30, 31] s else s
    match clearRequest s.memory with
    | some c =>
      let u := t.setMemory { t.memory with clear := some c, clearSettled := 0, clearTotal := clearTotalOf c.layout }
      reply 11 0 .taken none (beginWrite u)
    | none => reply 11 0 .refused none t
  else reply 11 0 .notInService none s

end Sys2Proof.Machine
end

