-- ==== Sys2Proof/Machine/Link.lean ====
section
/-!
DEFINITION. The Link Controller: receipt and dispatch, the number clash, contention, sending and abort (R133 to R145), with the
commands of received frames and of the line.
-/

namespace Sys2Proof.Machine

/-! ### The line view and the receiver's interest (R134, R136, R142) -/

/-- The line once it is idle: slot 0 begins, and no frame is being received (R133, R134, R140). -/
def Link.idled (l : Link) : Link :=
  { l with idle := true, receiving := false, released := Config.idleBitTimes, slotsBegun := some 0 }

/-- The line busy with another station's frame, which the receiver takes up or has taken up: the yield flag clears (R134, R142). -/
def Link.busied (receiving : Bool) (l : Link) : Link :=
  { l with idle := false, receiving := receiving, released := 0, slotsBegun := none, yield := false }

/-- A frame of another station can come to its end here: the station receives in its state, and the frame is one that it began
to receive on an idle line, or one that begins now, the line being idle (R134, R145; log entry 35). -/
def State.receives (s : State) : Bool := s.station.onLink && (s.link.idle || s.link.receiving)

/-- s once a frame it received has ended: the line has been busy with it, and until the next idle the receiver takes up no other
(R134, R142). -/
def frameEnded (s : State) : State := s.setLink (s.link.busied false)

/-! ### Receipt (R134, R143, R144) -/

/-- A number clash: LINK_CLASH latches and the station listens only (R143). -/
def clash (s : State) : State := latch .linkClash (s.setLink { s.link with listenOnly := true })

/-- A service request goes to the Start Controller when it names this station (R144). -/
def ifTarget (target : Nat) (f : State → State) (s : State) : State := if target = s.link.number then f s else s

/-- An accepted frame is handed to the block that owns its kind (R144). -/
def dispatch (origin : Nat) (f : Frame) (s : State) : State :=
  match f with
  | .registrationChange d stamp x => mergeRegistration d stamp x s
  | .registrationRefresh d stamp x => mergeRegistration d stamp x s
  | .crescendo c => takeContribution origin c s
  | .crescendoRepeat c => takeContribution origin c s
  | .heartbeat h => takeHeartbeat origin h s
  | .faultNotice _ => s
  | .serviceReply .. => s
  | .configurationRead target slot => ifTarget target (serviceRead slot) s
  | .configurationWrite target slot content => ifTarget target (serviceWrite 9 31 slot content) s
  | .slotWrite target slot content => ifTarget target (serviceWrite 10 (Config.slotCount - 1) slot content) s
  | .memoryClear target => ifTarget target serviceClear s
  | .restart target => ifTarget target (enterRestarting .restartFrame) s

/-- A frame that came to its end: discarded by R134, a clash by R143, else dispatched by R144. A frame the receiver did not take
up changes nothing (R134, R145). The number a clash and a target are judged by in Restarting is the one the station last fixed,
1 where Start was left before it fixed any (log entry 39). -/
def receive (origin : Nat) (f : Frame) (s : State) : State :=
  if s.receives then
    let t := frameEnded s
    if acceptable origin f then
      if origin = t.link.number then clash t else dispatch origin f t
    else t
  else s

/-- REGISTRATION_CHANGE (R10, R144). -/
def execRegistrationChange (origin d : Nat) (stamp : Stamp) (x : StopSet) (s : State) : Host.Outcome State Fault Refusal :=
  .next (receive origin (.registrationChange d stamp x) s)

/-- REGISTRATION_REFRESH (R10, R144). -/
def execRegistrationRefresh (origin d : Nat) (stamp : Stamp) (x : StopSet) (s : State) : Host.Outcome State Fault Refusal :=
  .next (receive origin (.registrationRefresh d stamp x) s)

/-- CRESCENDO (R152). -/
def execCrescendo (origin : Nat) (c : CrescendoContent) (s : State) : Host.Outcome State Fault Refusal :=
  .next (receive origin (.crescendo c) s)

/-- CRESCENDO_REPEAT_RECEIVED (R152). -/
def execCrescendoRepeatReceived (origin : Nat) (c : CrescendoContent) (s : State) : Host.Outcome State Fault Refusal :=
  .next (receive origin (.crescendoRepeat c) s)

/-- HEARTBEAT (R148 to R151). -/
def execHeartbeat (origin : Nat) (h : HeartbeatContent) (s : State) : Host.Outcome State Fault Refusal :=
  .next (receive origin (.heartbeat h) s)

/-- FAULT_NOTICE_RECEIVED: handed to the Peer Table and discarded (R151). -/
def execFaultNoticeReceived (origin : Nat) (k : FaultKind) (s : State) : Host.Outcome State Fault Refusal :=
  .next (receive origin (.faultNotice k) s)

/-- SERVICE_REPLY_RECEIVED: discarded (R144). -/
def execServiceReplyReceived (origin request slot : Nat) (result : ReplyResult) (content : Option Content) (s : State) : Host.Outcome State Fault Refusal :=
  .next (receive origin (.serviceReply request slot result content) s)

/-- CONFIGURATION_READ (R66, R169). -/
def execConfigurationRead (origin target slot : Nat) (s : State) : Host.Outcome State Fault Refusal :=
  .next (receive origin (.configurationRead target slot) s)

/-- CONFIGURATION_WRITE (R66, R169). -/
def execConfigurationWrite (origin target slot : Nat) (content : Content) (s : State) : Host.Outcome State Fault Refusal :=
  .next (receive origin (.configurationWrite target slot content) s)

/-- SLOT_WRITE (R66, R169). -/
def execSlotWrite (origin target slot : Nat) (content : Content) (s : State) : Host.Outcome State Fault Refusal :=
  .next (receive origin (.slotWrite target slot content) s)

/-- MEMORY_CLEAR (R64, R169). -/
def execMemoryClear (origin target : Nat) (s : State) : Host.Outcome State Fault Refusal :=
  .next (receive origin (.memoryClear target) s)

/-- RESTART (R169, R170). -/
def execRestart (origin target : Nat) (s : State) : Host.Outcome State Fault Refusal :=
  .next (receive origin (.restart target) s)

/-- NUMBER_CLASH: a whole frame of the station's own origin that it did not send (R143). -/
def execNumberClash (s : State) : Host.Outcome State Fault Refusal :=
  .next (if s.receives then clash (frameEnded s) else s)

/-- A frame that R134 discards: no block is handed it and no fault latches, and the receiver's interest ends. A frame discarded at
an idle leaves the line idle. -/
def discard (framing : Option FramingFault) (s : State) : State :=
  if s.receives then
    let t := frameEnded s
    match framing with
    | some .idleTooEarly => t.setLink t.link.idled
    | some .stopBitDriven | none => t
  else s

/-- FRAME_DISCARDED: the bytes a receiver collected are judged by R134; bytes that make a good frame are received as that frame (log
entry 10). -/
def execFrameDiscarded (framing : Option FramingFault) (bytes : List Byte) (s : State) : Host.Outcome State Fault Refusal :=
  .next (match judgeFrame framing bytes with
    | some (origin, f) => receive origin f s
    | none => discard framing s)

/-! ### The line (R136, R139 to R142) -/

/-- A frame waits (R140). -/
def Link.hasFrame (l : Link) : Bool := !l.urgent.isEmpty || !l.routine.isEmpty

/-- The slot number the station has while a frame waits (R139). -/
def Link.slotNumber (l : Link) : Nat :=
  (if l.urgent.isEmpty then 15 else 0) + (l.number - 1) + (if l.yield then 30 else 0)

/-- The transmitter's states (R136, R140). -/
inductive Transmitter where
  | quiet | contending | sending
  deriving DecidableEq, Repr

/-- The transmitter's state, read from the link's other state (R140). -/
def Link.transmitter (l : Link) : Transmitter :=
  if l.outgoing.isSome then .sending else if l.hasFrame && !l.listenOnly then .contending else .quiet

/-- LINE_IDLE: the line has been released for 12 bit times, and slot 0 begins (R133, R140). In Start the line view stays as it
begins, since the rate is not fixed yet (R136). -/
def execLineIdle (s : State) : Host.Outcome State Fault Refusal :=
  .next (if s.station.onLink && !s.link.idle && s.link.outgoing.isNone then
    s.setLink s.link.idled
  else s)

/-- LINE_BUSY: an idle line becomes busy with another station's frame, which the receiver takes up; the yield flag clears (R134,
R140, R142). -/
def execLineBusy (s : State) : Host.Outcome State Fault Refusal :=
  .next (if s.station.onLink && s.link.idle then s.setLink (s.link.busied true) else s)

/-- The frame to be sent and the link without it in its queue: the head of the urgent queue, else of the routine queue (R141). -/
def Link.takeHead (l : Link) : Link :=
  match l.urgent, l.routine with
  | f :: rest, _ => { l with urgent := rest, outgoing := some f }
  | [], f :: rest => { l with routine := rest, outgoing := some f }
  | [], [] => l

/-- SEND_BEGIN: slot k of the present idle period begins. A Contending station whose slot has come begins sending; before that it
waits (R139 to R141). Slots are counted in their order. -/
def execSendBegin (k : Nat) (s : State) : Host.Outcome State Fault Refusal :=
  .next (if s.station.onLink && s.link.idle then
    if s.link.transmitter = .contending ∧ s.link.slotNumber ≤ k then
      s.setLink { s.link.takeHead with idle := false, receiving := false, released := 0, slotsBegun := none }
    else s.setLink { s.link with slotsBegun := some k }
  else s)

/-- SEND_COMPLETE: every bit time read back as sent (R141, R142). -/
def execSendComplete (s : State) : Host.Outcome State Fault Refusal :=
  .next (if s.link.outgoing.isSome then s.setLink { s.link with outgoing := none, yield := true } else s)

/-- A frame that was aborted returns to the head of its queue, or is dropped where a later one of its key waits (R141). -/
def Link.returned (l : Link) (f : Frame) : Link :=
  if isUrgent f then { l with urgent := if waitsIn l.urgent f then l.urgent else f :: l.urgent }
  else { l with routine := if waitsIn l.routine f then l.routine else f :: l.routine }

/-- SEND_ABORT: a bit read back driven where the station released the line; the frame that caused it clears the yield flag, and
the station goes on receiving it (R141, R142). -/
def execSendAbort (s : State) : Host.Outcome State Fault Refusal :=
  .next (match s.link.outgoing with
    | some f => s.setLink { s.link.returned f with outgoing := none, receiving := true, yield := false }
    | none => s)

end Sys2Proof.Machine
end

