-- ==== Sys2Proof/Machine/Supply.lean ====
section
/-!
DEFINITION. The supply monitor and the fault acknowledge (R114, R156, R157, R162), with the supply commands.
-/

namespace Sys2Proof.Machine

/-- Low1 comes into force if it is released (R156). -/
def enterLow1 (s : State) : State :=
  if s.supply.low1 then s else latch .supplyLow1 (s.setSupply { s.supply with low1 := true })

/-- Low2 comes into force if it is released: in Restarting the entries not yet begun are discarded (R61, R156). -/
def enterLow2 (s : State) : State :=
  if s.supply.low2 then s
  else reportDrained (discardWaiting (latch .supplyLow2 (s.setSupply { s.supply with low2 := true })))

/-- Low2 is released if it is in force: pulse and write conditions are judged (R58, R114, R157). -/
def releaseLow2 (s : State) : State :=
  if s.supply.low2 then beginWrite (judgePulses (s.setSupply { s.supply with low2 := false })) else s

/-- Low1 is released if it is in force: the pulse conditions are judged (R114, R157). -/
def releaseLow1 (s : State) : State :=
  if s.supply.low1 then judgePulses (s.setSupply { s.supply with low1 := false }) else s

/-- One comparison of the supply with the four thresholds; between its two thresholds a condition keeps its state (R156). -/
def compareSupply (mv : Nat) (s : State) : State :=
  let t := if mv < Config.low1Entry then enterLow1 s else s
  let u := if mv < Config.low2Entry then enterLow2 t else t
  let v := if Config.low2Release < mv then releaseLow2 u else u
  if Config.low1Release < mv then releaseLow1 v else v

/-- A comparison that shows a threshold crossed, in any state with power (R156). -/
def supplyEvent (crossed : Bool) (mv : Nat) (s : State) : State :=
  if s.station ≠ .off ∧ crossed then compareSupply mv s else s

/-- LOW1_ENTRY: the supply is measured below 10.5 V (R156). -/
def execLow1Entry (mv : Nat) (s : State) : Host.Outcome State Fault Refusal :=
  .next (supplyEvent (mv < Config.low1Entry) mv s)

/-- LOW1_RELEASE: the supply is measured above 11.0 V (R156). -/
def execLow1Release (mv : Nat) (s : State) : Host.Outcome State Fault Refusal :=
  .next (supplyEvent (Config.low1Release < mv) mv s)

/-- LOW2_ENTRY: the supply is measured below 9.0 V (R156). -/
def execLow2Entry (mv : Nat) (s : State) : Host.Outcome State Fault Refusal :=
  .next (supplyEvent (mv < Config.low2Entry) mv s)

/-- LOW2_RELEASE: the supply is measured above 9.5 V (R156). -/
def execLow2Release (mv : Nat) (s : State) : Host.Outcome State Fault Refusal :=
  .next (supplyEvent (Config.low2Release < mv) mv s)

/-- A fault acknowledge press, taken in Joining and Awake: Stuck records are queued again, then each kind is judged (R115, R162). -/
def acknowledge (s : State) : State :=
  if s.station = .awake then clearFaults (moveRecords MotionRecord.requeue s)
  else if s.station = .joining then clearFaults s
  else s

end Sys2Proof.Machine
end

