-- ==== Sys2Proof/Machine/Lines.lean ====
section
/-!
DEFINITION. The Line Scanner: qualification, the events of a qualified change and where they go, the fixed lines (R119 to R131),
with the commands of the console's contacts. A command of a line is the completion of that line's qualified change; GROUP_SAMPLE
hands on the changes its sample completes (log entry 5).
-/

namespace Sys2Proof.Machine

/-! ### Events (R125 to R128) -/

/-- The Line Scanner hands on a change of a line of this function in this state (R128). -/
def handsOn (station : Station) (f : LineFunction) (active : Bool) : Bool :=
  match station with
  | .joining | .awake => true
  | .dormant => f == .consoleKey || (f == .encoderIndex && active)
  | _ => false

/-- A press or stop-sense change to drawn reaches the block that owns the function (R126). -/
def handPress (f : LineFunction) (s : State) : State :=
  match f with
  | .stopSense d i => senseChange d i true s
  | .generalPiston g => pressGeneral g s
  | .divisionalPiston d n => pressDivisional d n s
  | .set => pressSet s
  | .generalCancel => pressGeneralCancel s
  | .divisionCancel d => pressDivisionCancel d s
  | .levelUp => pressLevelUp s
  | .levelDown => pressLevelDown s
  | .sequencerNext => pressNext s
  | .sequencerPrevious => pressPrevious s
  | .tutti => pressTutti s
  | .crescendoProgram => pressProgram s
  | .crescendoSet => pressCrescendoSet s
  | .protect => pressProtect s
  | .consoleKey => judgeConsole s
  | .faultAcknowledge => acknowledge s
  | .encoderIndex => indexEdge s
  | .unused | .protectOverride | .encoderA | .encoderB => s

/-- A release or stop-sense change to off reaches the block that owns the function (R126, Table 2-1). -/
def handRelease (f : LineFunction) (s : State) : State :=
  match f with
  | .stopSense d i => senseChange d i false s
  | .set => releaseSet s
  | .divisionCancel d => releaseDivisionCancel d s
  | .consoleKey => judgeConsole s
  | .generalPiston _ | .divisionalPiston .. | .generalCancel | .levelUp | .levelDown => reportRelease s
  | .sequencerNext | .sequencerPrevious | .tutti | .crescendoProgram | .crescendoSet | .protect | .faultAcknowledge
  | .encoderIndex | .unused | .protectOverride | .encoderA | .encoderB => s

/-- A qualified change of a line of function f is handed on (R125 to R128). -/
def handChange (f : LineFunction) (active : Bool) (s : State) : State :=
  if handsOn s.station f active then (if active then handPress f s else handRelease f s) else s

/-- A line whose qualified state is to be so: a change that was completed leaves the run count 0; a line already so took no sample, and
its run count stays (R121). -/
def LineState.take (active : Bool) (l : LineState) : LineState :=
  if l.qualified = active then l else { qualified := active, run := 0 }

/-- Line n has taken a qualified state (R121). -/
def qualify (n : Nat) (active : Bool) (s : State) : State :=
  s.setScanner { s.scanner with lines := s.scanner.lines.modify n (LineState.take active) }



/-- The completion of a qualified change of line n, where the line carries a function of the command's kind; no other line gives
the command's event (log entry 6). A line already qualified so makes no change that R125 knows; such a command is taken as the
event once more (log entry 36). -/
def lineEvent (carries : LineFunction → Bool) (n : Nat) (active : Bool) (s : State) : State :=
  if carries (s.functionOfLine n) then handChange (s.functionOfLine n) active (qualify n active s) else s

/-! ### Commands of one line -/

/-- The function is a Stop sense. -/
def LineFunction.isStopSense : LineFunction → Bool
  | .stopSense .. => true
  | _ => false

/-- The function is a General piston. -/
def LineFunction.isGeneralPiston : LineFunction → Bool
  | .generalPiston _ => true
  | _ => false

/-- The function is a Divisional piston. -/
def LineFunction.isDivisionalPiston : LineFunction → Bool
  | .divisionalPiston .. => true
  | _ => false

/-- The function is a Division cancel. -/
def LineFunction.isDivisionCancel : LineFunction → Bool
  | .divisionCancel _ => true
  | _ => false

/-- The release of a line of this function does nothing beyond its report (LINE_RELEASE). -/
def LineFunction.plainRelease : LineFunction → Bool
  | .generalPiston _ | .divisionalPiston .. | .generalCancel | .levelUp | .levelDown | .sequencerNext | .sequencerPrevious
  | .tutti | .crescendoProgram | .crescendoSet | .protect | .faultAcknowledge | .encoderIndex => true
  | _ => false

/-- STOP_SENSE_CHANGE (R104, R112, R113). -/
def execStopSenseChange (n : Nat) (drawn : Bool) (s : State) : Host.Outcome State Fault Refusal :=
  .next (lineEvent LineFunction.isStopSense n drawn s)

/-- GENERAL_PISTON (R24, R33). -/
def execGeneralPiston (n : Nat) (s : State) : Host.Outcome State Fault Refusal :=
  .next (lineEvent LineFunction.isGeneralPiston n true s)

/-- DIVISIONAL_PISTON (R26, R34). -/
def execDivisionalPiston (n : Nat) (s : State) : Host.Outcome State Fault Refusal :=
  .next (lineEvent LineFunction.isDivisionalPiston n true s)

/-- SET_PRESS (R31). -/
def execSetPress (n : Nat) (s : State) : Host.Outcome State Fault Refusal := .next (lineEvent (· == .set) n true s)

/-- SET_RELEASE (R31). -/
def execSetRelease (n : Nat) (s : State) : Host.Outcome State Fault Refusal := .next (lineEvent (· == .set) n false s)

/-- GENERAL_CANCEL (R29). -/
def execGeneralCancel (n : Nat) (s : State) : Host.Outcome State Fault Refusal :=
  .next (lineEvent (· == .generalCancel) n true s)

/-- DIVISION_CANCEL_PRESS (R30, R32). -/
def execDivisionCancelPress (n : Nat) (s : State) : Host.Outcome State Fault Refusal :=
  .next (lineEvent LineFunction.isDivisionCancel n true s)

/-- DIVISION_CANCEL_RELEASE (R30). -/
def execDivisionCancelRelease (n : Nat) (s : State) : Host.Outcome State Fault Refusal :=
  .next (lineEvent LineFunction.isDivisionCancel n false s)

/-- LEVEL_UP (R22, R23). -/
def execLevelUp (n : Nat) (s : State) : Host.Outcome State Fault Refusal := .next (lineEvent (· == .levelUp) n true s)

/-- LEVEL_DOWN (R22, R23). -/
def execLevelDown (n : Nat) (s : State) : Host.Outcome State Fault Refusal := .next (lineEvent (· == .levelDown) n true s)

/-- PROTECT (R39). -/
def execProtect (n : Nat) (s : State) : Host.Outcome State Fault Refusal := .next (lineEvent (· == .protect) n true s)

/-- SEQUENCER_NEXT (R71, R74). -/
def execSequencerNext (n : Nat) (s : State) : Host.Outcome State Fault Refusal :=
  .next (lineEvent (· == .sequencerNext) n true s)

/-- SEQUENCER_PREVIOUS (R72, R75). -/
def execSequencerPrevious (n : Nat) (s : State) : Host.Outcome State Fault Refusal :=
  .next (lineEvent (· == .sequencerPrevious) n true s)

/-- TUTTI (R92, R93). -/
def execTutti (n : Nat) (s : State) : Host.Outcome State Fault Refusal := .next (lineEvent (· == .tutti) n true s)

/-- CRESCENDO_PROGRAM (R89). -/
def execCrescendoProgram (n : Nat) (s : State) : Host.Outcome State Fault Refusal :=
  .next (lineEvent (· == .crescendoProgram) n true s)

/-- CRESCENDO_SET (R90, R91). -/
def execCrescendoSet (n : Nat) (s : State) : Host.Outcome State Fault Refusal :=
  .next (lineEvent (· == .crescendoSet) n true s)

/-- LINE_RELEASE (R45, R70, R83, R125). -/
def execLineRelease (n : Nat) (s : State) : Host.Outcome State Fault Refusal :=
  .next (lineEvent LineFunction.plainRelease n false s)

/-- CONSOLE_KEY (R129). -/
def execConsoleKey (n : Nat) (active : Bool) (s : State) : Host.Outcome State Fault Refusal :=
  .next (lineEvent (· == .consoleKey) n active s)

/-- FAULT_ACKNOWLEDGE (R162). -/
def execFaultAcknowledge (n : Nat) (s : State) : Host.Outcome State Fault Refusal :=
  .next (lineEvent (· == .faultAcknowledge) n true s)

/-- The line of function f, if there is one, takes a qualified state. -/
def qualifyFunction (f : LineFunction) (active : Bool) (s : State) : State :=
  match s.lineOf f with
  | some n => qualify n active s
  | none => s

/-- The pair of qualified states of A and B is handed to the Crescendo Unit, in Joining and Awake (R81, R127). -/
def handPair (s : State) : State := judgePair (s.stateOfFunction .encoderA) (s.stateOfFunction .encoderB) s

/-- ENCODER_HANDOVER: a sample of the encoder's group leaves A and B qualified as given, and hands the pair over (R81, R127). A
track whose state does not change keeps its run count (log entry 44). Without encoder lines no hand-over reaches the unit (R84). -/
def execEncoderHandover (a b : Bool) (s : State) : Host.Outcome State Fault Refusal :=
  .next (if s.hasEncoder then judgePair a b (qualifyFunction .encoderB b (qualifyFunction .encoderA a s)) else s)

/-- INDEX_EDGE: the press of the Encoder index line (R83). -/
def execIndexEdge (s : State) : Host.Outcome State Fault Refusal :=
  .next (match s.lineOf .encoderIndex with
    | some n => lineEvent (· == .encoderIndex) n true s
    | none => s)

/-! ### Samples (R119 to R122) -/

/-- Equal samples a change needs (R121). -/
def QualificationMode.needed : QualificationMode → Nat
  | .direct => 1
  | .three => 3
  | .six => 6

/-- One sample of a line, after polarity: the line, and whether the sample completes a change (R121). -/
def qualifySample (needed : Nat) (level : Bool) (l : LineState) : LineState × Bool :=
  if level = l.qualified then ({ l with run := 0 }, false)
  else if l.run + 1 < needed then ({ l with run := l.run + 1 }, false)
  else ({ qualified := level, run := 0 }, true)

/-- The sample of line n at a raw level, true for closed; a line without an entry stays as it is (R120, R121). -/
def State.sampled (s : State) (n : Nat) (closed : Bool) : LineState × Bool :=
  match s.scanner.lines[n]?, s.config.table[n]? with
  | some l, some e => qualifySample e.mode.needed (closed != e.inverted) l
  | some l, none => (l, false)
  | none, _ => ({ qualified := false, run := 0 }, false)

/-- The lines of a group (R119). -/
def groupLines (m : Nat) : List Nat := (List.range 8).map (8 * m + ·)

/-- A raw level of line n of a group's sample. -/
def contactOf (contacts : Byte) (n : Nat) : Bool := contacts.getLsbD (n % 8)

/-- Every line of the group takes its sample (R119, R121). -/
def sampleLines (m : Nat) (contacts : Byte) (s : State) : State :=
  s.setScanner { s.scanner with
    lines := (groupLines m).foldl (fun ls n => ls.set n (s.sampled n (contactOf contacts n)).1) s.scanner.lines }

/-- The lines whose changes the sample completes, in ascending order (R125). -/
def State.changedLines (s : State) (m : Nat) (contacts : Byte) : List Nat :=
  (groupLines m).filter fun n => (s.sampled n (contactOf contacts n)).2

/-- The change of a line just qualified is handed on, in the state the station is in when its turn comes (R125, R128). -/
def handLine (s : State) (n : Nat) : State := handChange (s.functionOfLine n) (s.qualified n) s

/-- The group holds Encoder A or Encoder B (R127). -/
def State.groupHasTrack (s : State) (m : Nat) : Bool :=
  (groupLines m).any fun n => s.functionOfLine n == .encoderA || s.functionOfLine n == .encoderB

/-- GROUP_SAMPLE: the eight lines are sampled together; then each completed change is handed on in ascending line order, each event
whole before the next, and last the encoder's pair where the group holds a track (R119, R121, R125, R127). No group is sampled
where no line table is held (R119). -/
def execGroupSample (m : Nat) (contacts : Byte) (s : State) : Host.Outcome State Fault Refusal :=
  .next (if s.cfg.isSome ∧ m < 48 then
    let t := (s.changedLines m contacts).foldl handLine (sampleLines m contacts s)
    if s.groupHasTrack m then handPair t else t
  else s)

/-! ### The fixed lines (R130, R131) -/

/-- One sample of the restart line: the first after a start gives its qualified state; the answer is whether the sample completes
a press (R130). -/
def sampleRestart (level : Bool) (l : FixedLine) : FixedLine × Bool :=
  match l.qualified with
  | none => ({ qualified := some level, level := level, run := 0 }, false)
  | some q =>
    let r := qualifySample Config.fixedLineRun level { qualified := q, run := l.run }
    ({ qualified := some r.1.qualified, level := level, run := r.1.run }, r.2 && level)

/-- One sample of the service strap: its first qualified state after a start takes 6 equal samples (R131). -/
def sampleStrap (level : Bool) (l : FixedLine) : FixedLine :=
  match l.qualified with
  | none =>
    let run := if l.run = 0 ∨ level ≠ l.level then 1 else l.run + 1
    if run < Config.fixedLineRun then { qualified := none, level := level, run := run }
    else { qualified := some level, level := level, run := 0 }
  | some q =>
    let r := qualifySample Config.fixedLineRun level { qualified := q, run := l.run }
    { qualified := some r.1.qualified, level := level, run := r.1.run }

/-- FIXED_LINE_SAMPLE: the restart line and the service strap are sampled, in every state with power; a press the sample completes
begins Restarting (R130, R131). -/
def execFixedLineSample (restart strap : Bool) (s : State) : Host.Outcome State Fault Refusal :=
  .next (if s.station = .off then s else
    let r := sampleRestart restart s.scanner.restart
    let t := s.setScanner { s.scanner with restart := r.1, strap := sampleStrap strap s.scanner.strap }
    if r.2 then enterRestarting .restartLine t else t)

/-- The restart line once its press has qualified; a line already active stays as it is (R121, R130). -/
def FixedLine.pressed (l : FixedLine) : FixedLine :=
  if l.qualified = some true then l else { qualified := some true, level := true, run := 0 }

/-- RESTART_LINE_PRESS: the qualified press of the restart line (R130). -/
def execRestartLinePress (s : State) : Host.Outcome State Fault Refusal :=
  .next (if s.station = .off then s else
    enterRestarting .restartLine
      (s.setScanner { s.scanner with restart := s.scanner.restart.pressed }))

end Sys2Proof.Machine
end

