-- ==== Sys2Proof/Machine/Clock.lean ====
section
/-!
DEFINITION. One millisecond of time, which a step with an empty queue lets pass (log entry 3): the timers of State run where
their rules have them run. What a timer's end brings about is a command (log entry 4).
-/

namespace Sys2Proof.Machine

/-- A window or pulse with one ms less (R102). -/
def MotionRecord.tick (r : MotionRecord) : MotionRecord := { r with window := r.window.map (· - 1) }

/-- A record one ms older (R149). -/
def Peer.tick (p : Peer) : Peer := { p with age := p.age + 1 }

/-- The timers of the Start Controller (R146, R153). -/
def tickStart (station : Station) (c : StartController) : StartController :=
  { c with
    joinMs := if station = .joining then c.joinMs + 1 else c.joinMs
    heartbeatMs := if station.heartbeats then c.heartbeatMs + 1 else c.heartbeatMs }

/-- The idle timer and the time of the write in flight (R58, R62). -/
def tickMemory (station : Station) (m : MemoryController) : MemoryController :=
  { m with
    idle := if station.inPlay then m.idle + 1 else m.idle
    flight := m.flight.map fun f => { f with ms := f.ms + 1 } }

/-- One millisecond passes. -/
def tick (s : State) : State :=
  if s.station = .off then s
  else
    { s with
      start := tickStart s.station s.start
      memory := tickMemory s.station s.memory
      motion := { s.motion with records := s.motion.records.map MotionRecord.tick }
      peers := if s.station.inPlay then s.peers.map (Option.map Peer.tick) else s.peers
      answers := s.answers.map fun a => { a with ms := a.ms + 1 } }

end Sys2Proof.Machine
end

