-- ==== Sys2Proof/Machine/Dispatch.lean ====
section
/-!
DEFINITION. exec: one arm for each command, each one call of its meaning.
-/

namespace Sys2Proof.Machine

def exec (i : Instr) (s : State) : Host.Outcome State Fault Refusal :=
  match i with
  | .powerOn millivolts => Sys2Proof.Machine.execPowerOn millivolts s
  | .lossOfPower torn => Sys2Proof.Machine.execLossOfPower torn s
  | .configurationCheck contacts => Sys2Proof.Machine.execConfigurationCheck contacts s
  | .restartLinePress => Sys2Proof.Machine.execRestartLinePress s
  | .startAfterRestarting => Sys2Proof.Machine.execStartAfterRestarting s
  | .stopSenseChange line drawn => Sys2Proof.Machine.execStopSenseChange line drawn s
  | .generalPiston line => Sys2Proof.Machine.execGeneralPiston line s
  | .divisionalPiston line => Sys2Proof.Machine.execDivisionalPiston line s
  | .setPress line => Sys2Proof.Machine.execSetPress line s
  | .setRelease line => Sys2Proof.Machine.execSetRelease line s
  | .generalCancel line => Sys2Proof.Machine.execGeneralCancel line s
  | .divisionCancelPress line => Sys2Proof.Machine.execDivisionCancelPress line s
  | .divisionCancelRelease line => Sys2Proof.Machine.execDivisionCancelRelease line s
  | .levelUp line => Sys2Proof.Machine.execLevelUp line s
  | .levelDown line => Sys2Proof.Machine.execLevelDown line s
  | .protect line => Sys2Proof.Machine.execProtect line s
  | .sequencerNext line => Sys2Proof.Machine.execSequencerNext line s
  | .sequencerPrevious line => Sys2Proof.Machine.execSequencerPrevious line s
  | .tutti line => Sys2Proof.Machine.execTutti line s
  | .crescendoProgram line => Sys2Proof.Machine.execCrescendoProgram line s
  | .crescendoSet line => Sys2Proof.Machine.execCrescendoSet line s
  | .lineRelease line => Sys2Proof.Machine.execLineRelease line s
  | .consoleKey line active => Sys2Proof.Machine.execConsoleKey line active s
  | .faultAcknowledge line => Sys2Proof.Machine.execFaultAcknowledge line s
  | .encoderHandover a b => Sys2Proof.Machine.execEncoderHandover a b s
  | .indexEdge => Sys2Proof.Machine.execIndexEdge s
  | .low1Entry millivolts => Sys2Proof.Machine.execLow1Entry millivolts s
  | .low1Release millivolts => Sys2Proof.Machine.execLow1Release millivolts s
  | .low2Entry millivolts => Sys2Proof.Machine.execLow2Entry millivolts s
  | .low2Release millivolts => Sys2Proof.Machine.execLow2Release millivolts s
  | .pulseEnd d k => Sys2Proof.Machine.execPulseEnd d k s
  | .settleEnd d k => Sys2Proof.Machine.execSettleEnd d k s
  | .writeReadback found => Sys2Proof.Machine.execWriteReadback found s
  | .idleReady => Sys2Proof.Machine.execIdleReady s
  | .retentionRefreshWrite => Sys2Proof.Machine.execRetentionRefreshWrite s
  | .heartbeatPeriod => Sys2Proof.Machine.execHeartbeatPeriod s
  | .joinEnd => Sys2Proof.Machine.execJoinEnd s
  | .peerSilent record => Sys2Proof.Machine.execPeerSilent record s
  | .peerAbsent record => Sys2Proof.Machine.execPeerAbsent record s
  | .registrationChange origin division stamp drawn => Sys2Proof.Machine.execRegistrationChange origin division stamp drawn s
  | .registrationRefresh origin division stamp drawn => Sys2Proof.Machine.execRegistrationRefresh origin division stamp drawn s
  | .crescendo origin content => Sys2Proof.Machine.execCrescendo origin content s
  | .crescendoRepeatReceived origin content => Sys2Proof.Machine.execCrescendoRepeatReceived origin content s
  | .heartbeat origin content => Sys2Proof.Machine.execHeartbeat origin content s
  | .faultNoticeReceived origin kind => Sys2Proof.Machine.execFaultNoticeReceived origin kind s
  | .serviceReplyReceived origin request slot result content => Sys2Proof.Machine.execServiceReplyReceived origin request slot result content s
  | .configurationRead origin target slot => Sys2Proof.Machine.execConfigurationRead origin target slot s
  | .configurationWrite origin target slot content => Sys2Proof.Machine.execConfigurationWrite origin target slot content s
  | .slotWrite origin target slot content => Sys2Proof.Machine.execSlotWrite origin target slot content s
  | .memoryClear origin target => Sys2Proof.Machine.execMemoryClear origin target s
  | .restart origin target => Sys2Proof.Machine.execRestart origin target s
  | .numberClash => Sys2Proof.Machine.execNumberClash s
  | .frameDiscarded framing bytes => Sys2Proof.Machine.execFrameDiscarded framing bytes s
  | .lineIdle => Sys2Proof.Machine.execLineIdle s
  | .lineBusy => Sys2Proof.Machine.execLineBusy s
  | .sendBegin slot => Sys2Proof.Machine.execSendBegin slot s
  | .sendComplete => Sys2Proof.Machine.execSendComplete s
  | .sendAbort => Sys2Proof.Machine.execSendAbort s
  | .lampAnswerEnd lamp => Sys2Proof.Machine.execLampAnswerEnd lamp s
  | .groupSample group contacts => Sys2Proof.Machine.execGroupSample group contacts s
  | .fixedLineSample restart strap => Sys2Proof.Machine.execFixedLineSample restart strap s

end Sys2Proof.Machine
end

