-- ==== Sys2Proof/Safety.lean ====
section
/-!
DEFINITION. What a sound station is, block by block, in the terms the statements use, and what a local change leaves behind it.
-/

namespace Sys2Proof.Safety

open Sys2Proof.Machine

/-! ### The configuration in force (R49, R123, R166 to R168) -/

/-- The figures of a copy lie in the ranges of Table 11-2 that the blocks rest on. -/
def figuresOk (c : Configuration) : Bool :=
  layoutOk c.layout && c.layout.fits && 1 ≤ c.budget && c.budget ≤ 16
    && c.closed + 200 ≤ c.opened && c.hysteresis ≤ 20
    && c.table.all (fun e => parametersOk c.layout e.function) && encoderLinesOk c.table

/-- A configuration is held in Joining, Awake and Dormant, at most in those and in Restarting, with good figures and the
partition they give; without one no partition stands (R49, R166, R168). -/
def configured (s : State) : Prop :=
  match s.cfg with
  | none => s.station.inPlay = false ∧ s.memory.partition = none
  | some c =>
    (s.station.inPlay = true ∨ s.station = .restarting) ∧ figuresOk c = true ∧ s.memory.partition = some (partitionOf c.layout)

/-! ### The Registration Image (R1, R2) -/

/-- One drawn set for each division of the configuration, of defined indices alone (R1). -/
def imageOk (s : State) : Prop :=
  s.image.length = s.divisionCount ∧ ∀ d v, s.image[d]? = some v → s.config.restrict d v.drawn = v.drawn

/-! ### The Combination Memory Controller (R46, R49, R56) -/

/-- The queue has at most 32 entries, at most one waiting for a slot, and the entry being written is its head (R56). -/
def writesOk (s : State) : Prop :=
  s.memory.queue.length ≤ Config.writeQueueEntries
    ∧ (s.memory.waiting.map (·.slot)).Nodup
    ∧ ∀ f, s.memory.flight = some f → f.kind = .queue →
        ∃ e rest, s.memory.queue = e :: rest ∧ e.slot = f.slot ∧ e.content = f.content

/-- A queue entry stands in the region its source writes (R48, R49, R66). -/
def inRegion (p : Partition) (e : WriteEntry) : Prop :=
  match e.source with
  | .capture => p.levelBase ≤ e.slot ∧ e.slot < p.levelTop
  | .sequence => p.seqBase ≤ e.slot ∧ e.slot < p.cresBase
  | .stage | .tutti => p.cresBase ≤ e.slot ∧ e.slot < Config.slotCount
  | .protection => e.slot = Config.protectionSlot
  | .lastRegistration => e.slot = Config.lastRegistrationSlot
  | .service _ => e.slot < Config.slotCount

/-- A clear that was taken goes through slots of its own partition (R64, R65). -/
def clearOk (m : MemoryController) : Prop :=
  ∀ c, m.clear = some c →
    layoutOk c.layout = true ∧ c.layout.fits = true ∧ c.layout.divisionals.length = c.layout.divisions
      ∧ c.partition = partitionOf c.layout ∧ m.clearTotal = clearTotalOf c.layout ∧ c.next < m.clearTotal

/-- Every queued write stands in its region and below 16384, and so do the write in flight and the retention pointer; no write
waits in Start or without power, and a clear stands in Service alone (R49, R56, R63 to R65). -/
def regionsOk (s : State) : Prop :=
  (∀ e ∈ s.memory.queue, inRegion s.bases e ∧ e.slot < Config.slotCount)
    ∧ (s.station = .start ∨ s.station = .off → s.memory.queue = [])
    ∧ (∀ f, s.memory.flight = some f → f.slot < Config.slotCount)
    ∧ s.memory.retention < Config.slotCount ∧ clearOk s.memory
    ∧ (s.memory.clear.isSome = true → s.station = .service)

/-! ### The Recall Unit and the Sequencer (R67) -/

/-- The level lies within 1 to L, the cursor within the list, the list within Q; without a configuration level 1 and an empty
list stand (R20, R67). -/
def levelsOk (s : State) : Prop :=
  1 ≤ s.recallUnit.level ∧ s.recallUnit.level ≤ max 1 s.config.layout.levels
    ∧ s.sequencer.cursor ≤ s.sequencer.steps.length ∧ s.sequencer.steps.length ≤ s.config.layout.steps

/-! ### The Crescendo Unit (R79, R82, R84, R86) -/

/-- The ranges of R79, the hold at the fourth phase error (R82), and the rest of a console without a shoe (R84). -/
def crescendoOk (s : State) : Prop :=
  s.crescendo.count ≤ Config.maxCount ∧ s.crescendo.phaseErrors ≤ Config.phaseErrorLimit
    ∧ (s.crescendo.held = true ↔ s.crescendo.phaseErrors = Config.phaseErrorLimit)
    ∧ s.crescendo.program ≤ 3 ∧ s.crescendo.stage ≤ s.config.layout.stages ∧ s.crescendo.repeatCount < Config.repeatPeriods
    ∧ (s.hasEncoder = false →
        s.crescendo.count = 0 ∧ s.crescendo.phaseErrors = 0 ∧ s.crescendo.held = false ∧ s.crescendo.stage = 0)

/-! ### The Motion Controller (R102, R103, R105, R107) -/

/-- What a record's state says of its other fields (R103, R105, R110). -/
def recordOk (r : MotionRecord) : Prop :=
  r.retry ≤ Config.maxRetry
    ∧ match r.state with
      | .aligned => r.sensed = r.target ∧ r.coil = none
      | .queued => r.sensed ≠ r.target ∧ r.coil = none
      | .driving => r.coil.isSome = true
      | .settling => r.coil = none
      | .stuck => r.sensed ≠ r.target ∧ r.coil = none
      | .unaligned => True

/-- The motion law: one record for each sensed control of the configuration, each sound; Unaligned outside Awake and never in it;
the queue holds each Queued control once and nothing else; the energized count counts the coils and is at most K (R102, R103,
R105, R107). -/
def motionOk (s : State) : Prop :=
  s.motion.records.map MotionRecord.key = s.config.sensedControls
    ∧ (∀ r ∈ s.motion.records, recordOk r ∧ (r.state = .unaligned ↔ s.station ≠ .awake))
    ∧ s.motion.queue.Nodup
    ∧ (∀ k, k ∈ s.motion.queue ↔ ∃ r ∈ s.motion.records, r.key = k ∧ r.state = .queued)
    ∧ s.motion.energized = s.motion.records.countP (·.coil.isSome)
    ∧ s.motion.energized ≤ s.config.budget

/-! ### The Link Controller (R137) -/

/-- A frame that may wait in the urgent queue: a division below 8 (R137). -/
def urgentFrame : Frame → Prop
  | .registrationChange d _ _ => d < 8
  | .crescendo _ => True
  | _ => False

/-- A frame that may wait in the routine queue (R137). -/
def routineFrame : Frame → Prop
  | .registrationRefresh d _ _ => d < 8
  | .heartbeat _ | .crescendoRepeat _ | .faultNotice _ | .serviceReply .. => True
  | _ => False

/-- Each queue holds frames of its class alone, no two of one key; the frame being sent is of one of the classes (R135, R137,
R141). The line is busy while the station sends or receives; it does not receive what it sends, and the yield flag is clear once
another station's frame has come (R134, R142, R144). -/
def linkOk (s : State) : Prop :=
  (∀ f ∈ s.link.urgent, urgentFrame f) ∧ (∀ f ∈ s.link.routine, routineFrame f)
    ∧ (s.link.urgent.map frameKey).Nodup ∧ (s.link.routine.map frameKey).Nodup
    ∧ (∀ f, s.link.outgoing = some f → urgentFrame f ∨ routineFrame f)
    ∧ (s.link.outgoing ≠ none → s.link.idle = false)
    ∧ (s.link.receiving = true → s.link.idle = false ∧ s.link.outgoing = none ∧ s.link.yield = false)
    ∧ s.refreshPointer < 8

/-! ### The Peer Table (R147) -/

/-- The ranges of a taken record (R147). -/
def peerOk (own : Nat) (p : Peer) : Prop :=
  1 ≤ p.station ∧ p.station ≤ 15 ∧ p.station ≠ own ∧ p.sequence ≤ 15 ∧ p.gapRun ≤ 3 ∧ p.cleanRun ≤ 8

/-- 14 records, sound, no two of one number and kind; all free where the station has not entered Joining (R147). -/
def peersOk (s : State) : Prop :=
  s.peers.length = Config.peerRecords
    ∧ (∀ p ∈ s.peers.reduceOption, peerOk s.link.number p)
    ∧ (s.peers.reduceOption.map fun p => (p.station, p.kind)).Nodup
    ∧ (s.station.inPlay = false → s.station ≠ .restarting → s.peers = List.replicate Config.peerRecords none)

/-! ### The Supply and Fault Unit (R156) -/

/-- Low2 implies Low1 (R156). -/
def supplyOk (s : State) : Prop := s.supply.low2 = true → s.supply.low1 = true

/-! ### Pulses and targets (R105 to R108) -/

/-- How many pulses start where so many coils are energized and so many records wait (R107). -/
def startable (s : State) (energized waiting : Nat) : Nat :=
  if s.station = .awake ∧ s.supply.low2 = false then
    min waiting ((if s.supply.low1 then (s.config.budget + 1) / 2 else s.config.budget) - energized)
  else 0

/-- The motion of s once its conditions were judged from m: the pulses R107 allows, one after another for the head of the queue (R107,
R108). -/
def judged (s : State) (m : Motion) : Motion :=
  let k := startable s m.energized m.queue.length
  { records := m.records.map fun r =>
      if r.key ∈ m.queue.take k then { r with state := .driving, window := some s.config.pulse, coil := some r.target } else r
    queue := m.queue.drop k
    energized := m.energized + k }

/-- A record whose target the image sets to v (R106). An Aligned record whose sensed field agrees with the new target stays Aligned,
as at a hand motion (R16, R113). -/
def retargeted (v : Bool) (r : MotionRecord) : MotionRecord :=
  if r.target = v then r
  else { r with
    target := v
    retry := 0
    state := match r.state with
      | .aligned => if r.sensed = v then .aligned else .queued
      | .queued => if r.sensed = v then .aligned else .queued
      | .stuck => if r.sensed = v then .aligned else .stuck
      | .driving => .driving
      | .settling => .settling
      | .unaligned => .unaligned }

/-- The motion of s once each record became f of it: a record that ceases to be Queued leaves the queue, those that become Queued are
appended in the order of the records, and pulses start (R105 to R107). -/
def motionAfter (s : State) (f : MotionRecord → MotionRecord) : Motion :=
  judged s {
    records := s.motion.records.map f
    queue := s.motion.queue.filter (fun k => s.motion.records.any fun r => r.key == k && (f r).state == .queued)
      ++ (s.motion.records.filter fun r => r.state != .queued && (f r).state == .queued).map MotionRecord.key
    energized := s.motion.energized }

/-! ### Frames handed (R138) -/

/-- A queue after a frame was handed: in the place of the waiting frame with its key, else at the tail (R138). -/
def waitingWith (q : List Frame) (f : Frame) : List Frame :=
  if q.any fun g => frameKey g == frameKey f then q.map fun g => if frameKey g = frameKey f then f else g else q ++ [f]

/-! ### What a local change leaves (R5, R6, R16) -/

/-- The division's new value: the change's set, restricted, under the successor stamp; a division the change does not touch stays
(R1, R5, R6). -/
def changedDivision (c : Configuration) (own : Nat) (changes : List (Nat × StopSet)) (d : Nat) (v : Division) : Division :=
  match changes.find? fun x => x.1 == d with
  | some x =>
    { drawn := x.2 &&& definedIndices (c.controlsOf d)
      stamp := { era := if v.stamp.era = 65535#16 then 1#16 else v.stamp.era + 1#16, origin := own } }
  | none => v

/-- The urgent frame of division d after a local change (R6 step 3); a division the image has not counts as unset (R2). -/
def changeFrame (s : State) (changes : List (Nat × StopSet)) (d : Nat) : Frame :=
  let unset : Division := { drawn := 0#48, stamp := { era := 0#16, origin := s.link.number } }
  let v := changedDivision s.config s.link.number changes d (s.image.getD d unset)
  .registrationChange d v.stamp v.drawn

/-- s, in a state that takes hand-overs, after a local change of divisions in ascending order: each stamped and installed, the others
as they stood (R5, R6); one urgent frame for each, in the change's order, in the place of one that waits with its key or at the
tail (R6, R138); each target of those divisions set to its new drawn set, taken by R106 (R16). A change that touches no division
changes nothing (R6). -/
def changedBy (changes : List (Nat × StopSet)) (s : State) : State :=
  if changes = [] then s
  else
    let image := s.image.mapIdx (changedDivision s.config s.link.number changes)
    let target := fun (r : MotionRecord) => ((image[r.d]?.map (·.drawn)).getD 0#48).getLsbD r.i
    { s with
      image := image
      link := { s.link with urgent := changes.foldl (fun q x => waitingWith q (changeFrame s changes x.1)) s.link.urgent }
      motion := motionAfter s fun r => if changes.any fun x => x.1 == r.d then retargeted (target r) r else r }

/-- Some line that carries f is qualified active (R40, R129). -/
def lineActive (s : State) (f : LineFunction) : Prop :=
  ∃ (n : Nat) (e : LineEntry) (l : LineState), s.config.table[n]? = some e ∧ e.function = f ∧ s.scanner.lines[n]? = some l ∧ l.qualified = true

/-- Every division emptied (R29). -/
def allEmpty (s : State) : List (Nat × StopSet) := (List.range s.divisionCount).map fun d => (d, 0#48)

/-! ### The lines and the lamps (R44, R121) -/

/-- A line with a qualified state it takes: its run count is 0 after a change, and stays where the state is the one it had (R121). -/
def lineTaken (active : Bool) (l : LineState) : LineState :=
  { qualified := active, run := if l.qualified = active then l.run else 0 }

/-- The scanner once line n has a qualified state (R121). -/
def lineQualified (s : State) (n : Nat) (active : Bool) : Scanner :=
  { s.scanner with lines := s.scanner.lines.modify n (lineTaken active) }

/-- s once line n has qualified (R121). -/
def atLine (s : State) (n : Nat) (active : Bool) : State := { s with scanner := lineQualified s n active }

/-- s once line n has qualified and the idle timer was restarted by the local event (R45, R62, R121). -/
def atEvent (s : State) (n : Nat) (active : Bool) : State :=
  { s with scanner := lineQualified s n active, memory := { s.memory with idle := 0 } }

/-- The restart line once a press of it was taken (R121, R130). -/
def restartPressed (s : State) : Scanner :=
  { s.scanner with
    restart := if s.scanner.restart.qualified = some true then s.scanner.restart else { qualified := some true, level := true, run := 0 } }

/-- The lamp answers after an answer of n blinks on a lamp, which takes the place of one that runs on it (R44). -/
def answered (s : State) (l : Lamp) (n : Nat) : List Answer :=
  s.answers.filter (fun a => a.lamp != l) ++ [{ lamp := l, blinks := n, ms := 0 }]

/-! ### Frames and faults (R138, R158, R160) -/

/-- The link after a routine frame was handed in a state that takes hand-overs, and as it was in any other (R138, R145). -/
def handedRoutine (s : State) (f : Frame) : Link :=
  if s.station.takesHandOvers then { s.link with routine := waitingWith s.link.routine f } else s.link

/-- The set of one fault kind (R171). -/
def kindBit (k : FaultKind) : FaultSet := BitVec.ofNat 16 (2 ^ faultCode k)

/-- s after kind k was reported: the flag latched, and a notice handed where the kind is routed to Notice (R145, R158, R160). -/
def reported (k : FaultKind) (s : State) : State :=
  { s with
    faults := s.faults ||| kindBit k
    link := if s.config.routes.notice.getLsbD (faultCode k) then handedRoutine s (.faultNotice k) else s.link }

/-- The kinds in the order of their codes (Table 12-1). -/
def kindsInOrder : List FaultKind :=
  [.stopStuck, .encoder, .memoryCheck, .memoryWrite, .supplyLow1, .supplyLow2, .linkClash, .linkQuality, .peerTableFull, .peerLost,
    .config]

/-- A routine queue after the notices of the latched kinds that are routed to Notice were handed, in ascending code (R160; log entry
14). -/
def noticesHanded (faults notice : FaultSet) (q : List Frame) : List Frame :=
  (kindsInOrder.filter fun k => faults.getLsbD (faultCode k) && notice.getLsbD (faultCode k)).foldl
    (fun q k => waitingWith q (.faultNotice k)) q

/-! ### Writes (R57, R58) -/

/-- One entry among the waiting ones: in the place of the entry of its slot, else at the tail (R57). -/
def waitingAfter (w : List WriteEntry) (e : WriteEntry) : List WriteEntry :=
  if w.any fun x => x.slot == e.slot then w.map fun x => if x.slot = e.slot then e else x else w ++ [e]

/-- The write of the head of a queue (R58). -/
def headWrite (q : List WriteEntry) : Option Flight :=
  q.head?.map fun e => { slot := e.slot, content := e.content, kind := .queue, rewrite := false, ms := 0 }

/-- The write that comes next: a running clear's next slot, else the head of the queue (R58, R64, R65). -/
def nextWrite (m : MemoryController) : Option Flight :=
  match m.clear with
  | some c =>
    if c.before = 0 then
      some { slot := clearSlot c c.next, content := clearContent c c.next, kind := .clear, rewrite := false, ms := 0 }
    else headWrite m.queue
  | none => headWrite m.queue

/-- The memory once the conditions of a write were judged, Low2 standing as given (R58, R65). -/
def begun (low2 : Bool) (m : MemoryController) : MemoryController :=
  { m with flight := if m.flight = none ∧ low2 = false then nextWrite m else m.flight }

/-- The memory after a request was taken whole, a write begun where it can (R57, R58). -/
def written (s : State) (request : List WriteEntry) : MemoryController :=
  begun s.supply.low2
    { s.memory with queue := s.memory.queue.take s.memory.begun ++ request.foldl waitingAfter s.memory.waiting }

/-- The queue has the entries a request of these slots needs (R57). -/
def roomFor (s : State) (slots : List Nat) : Prop :=
  (slots.filter fun n => !(s.memory.waiting.any fun e => e.slot == n)).length + s.memory.queue.length
    ≤ Config.writeQueueEntries

/-! ### Additions (R94, R95, R97) -/

/-- The crescendo frame of a unit's announcement (R95). -/
def announcement (s : State) (additions : Sets) : CrescendoContent :=
  { program := s.crescendo.program, stage := s.crescendo.stage, tutti := s.crescendo.tutti,
    additions := additions.take s.divisionCount }

/-- The link after an urgent crescendo frame was handed, a waiting repeat brought to the same content (R95, R138). -/
def linkAnnounced (l : Link) (c : CrescendoContent) : Link :=
  { l with
    urgent := waitingWith l.urgent (.crescendo c)
    routine := l.routine.map fun g => if frameKey g = .crescendoRepeat then .crescendoRepeat c else g }

/-- The routine queue after the answer to a peer that has become Present or has started: a refresh burst and a crescendo repeat (R15,
R96, R150, R151; log entry 13). -/
def arrivalAnswered (s : State) : List Frame :=
  waitingWith
    ((List.range s.divisionCount).foldl
      (fun q d => waitingWith q (.registrationRefresh d (s.division d).stamp (s.division d).drawn)) s.link.routine)
    (.crescendoRepeat (announcement s s.crescendo.localAdditions))

/-- Some of the slots fails its check when read (R47). -/
def failing (m : MemoryController) (slots : List Nat) : Bool := slots.any fun n => (newest m n).isNone

/-- The state in which a block has read slots: MEMORY_CHECK reported where one failed (R47). -/
def afterReads (slots : List Nat) (s : State) : State := if failing s.memory slots then reported .memoryCheck s else s

/-- t is u, an acting state of a station that found the Crescendo Unit as old, with the local additions formed anew: the records
read, an urgent frame handed if anything differs, the effective additions following (R94, R95, R97). -/
def AdditionsFormed (old : CrescendoUnit) (u t : State) : Prop :=
  let v := afterReads u.additionSlots u
  let same := old.program = u.crescendo.program ∧ old.stage = u.crescendo.stage ∧ old.tutti = u.crescendo.tutti
    ∧ old.localAdditions = u.formedAdditions
  t = { v with
      crescendo := { u.crescendo with localAdditions := u.formedAdditions, effective := t.crescendo.effective }
      link := if same then v.link else linkAnnounced v.link (announcement u u.formedAdditions) }
    ∧ t.crescendo.effective = t.formedEffective

/-! ### Recalls and cancels (R24 to R29) -/

/-- The slot of a piston of the current level (R51). -/
def slotOfPiston (s : State) (p : Piston) : Nat :=
  match p with
  | .general g => s.bases.levelBase + (s.recallUnit.level - 1) * s.config.layout.size + (g - 1)
  | .divisional d n =>
    s.bases.levelBase + (s.recallUnit.level - 1) * s.config.layout.size + s.config.layout.generals
      + (s.config.layout.divisionals.take d).sum + (n - 1)

/-- The local change a record's content makes: each division of its scope below the division count with its set (R24, R174). -/
def assertedBy (s : State) (c : Content) : List (Nat × StopSet) :=
  ((List.range s.divisionCount).filter fun d => c.getLsbD d).map fun d => (d, c.extractLsb' (8 + 48 * d) 48)

/-- The record a content holds: the scope in byte 0, one set in each 6 bytes that follow (R174). -/
def recordIn (c : Content) : Record :=
  { scope := c.extractLsb' 0 8, sets := (List.range 8).map fun d => c.extractLsb' (8 + 48 * d) 48 }

/-- t is u, a state in Awake, after the recall of a piston of the current level: taken, or refused where the slot fails its check
(R24 to R27). -/
def Recalled (p : Piston) (u t : State) : Prop :=
  match newest u.memory (slotOfPiston u p) with
  | some c =>
    t = { changedBy (assertedBy u c) u with
      recallUnit := { u.recallUnit with live := some (u.recallUnit.level, p), snapshot := some (recordIn c) } }
  | none => t = { reported .memoryCheck u with answers := answered u (.piston p) 3 }

/-- t is u, a state in Awake, after a general cancel: every division emptied, local tutti off, no live piston (R29, R92). That the
registration frames are handed before the crescendo frame is log entry 38. -/
def Cancelled (u t : State) : Prop :=
  let v := changedBy (allEmpty u) u
  ∃ w, (if u.crescendo.tutti = true then
        AdditionsFormed u.crescendo { v with crescendo := { u.crescendo with tutti := false } } w
      else w = v)
    ∧ t = { w with recallUnit := { w.recallUnit with live := none, snapshot := none } }

/-! ### The stage (R85 to R87) -/

/-- t is u, a state in Awake, after an evaluation of the stage (R86, R87). -/
def StageEvaluated (u t : State) : Prop :=
  let stage := selectStage u.config (calibrated u.config u.crescendo.count) u.crescendo.stage
  if u.crescendo.held = true ∨ stage = u.crescendo.stage then t = u
  else AdditionsFormed u.crescendo { u with crescendo := { u.crescendo with stage := stage } } t

/-! ### Changes of the station state (R80, R116, R117, R155, R170) -/

/-- A record as its station leaves Awake: a pulse runs on, a settle window does not (R116). -/
def asideRecord (r : MotionRecord) : MotionRecord :=
  { r with state := .unaligned, retry := 0, window := if r.coil = none then none else r.window }

/-- The Recall Unit as its station leaves Awake (R21). -/
def countsDropped (s : State) : RecallUnit :=
  { s.recallUnit with setCount := 0, cancelCounts := List.replicate s.divisionCount 0 }

/-- t is u after an entry into Dormant (R21, R80, R116, R155). -/
def DormantEntered (u t : State) : Prop :=
  let save : WriteEntry := { slot := 29, content := setsContent u.drawnSets, source := .lastRegistration }
  (t = { u with
      station := .dormant
      recallUnit := countsDropped u
      motion := { u.motion with records := u.motion.records.map asideRecord, queue := [] }
      crescendo := { u.crescendo with effective := t.crescendo.effective }
      memory := t.memory })
    ∧ t.crescendo.effective = t.formedEffective
    ∧ (u.config.policy = .last → roomFor u [29] → t.memory = written u [save])
    ∧ (u.config.policy ≠ .last ∨ ¬ roomFor u [29] → t.memory = u.memory)

/-- A record judged at an entry into Awake (R117). -/
def wokenRecord (s : State) (r : MotionRecord) : MotionRecord :=
  let sensed := s.stateOfFunction (.stopSense r.d r.i)
  { r with
    sensed := sensed
    retry := 0
    state := if r.coil ≠ none then .driving else if sensed = r.target then .aligned else .queued }

/-- t is u after an entry into Awake: the records judged afresh and pulses started, the stage evaluated unless it is held, the
additions formed (R80, R117). -/
def AwakeEntered (u t : State) : Prop :=
  let a := { u with station := .awake }
  let records := u.motion.records.map (wokenRecord u)
  let queue := (records.filter fun r => r.state == .queued).map MotionRecord.key
  let stage := if u.crescendo.held then u.crescendo.stage
    else selectStage u.config (calibrated u.config u.crescendo.count) u.crescendo.stage
  AdditionsFormed u.crescendo
    { a with
      motion := judged a { records := records, queue := queue, energized := u.motion.energized }
      crescendo := { u.crescendo with stage := stage } } t

/-- u after an entry into Restarting with a cause (R21, R61, R65, R116, R164, R170). -/
def restartingEntered (cause : StartCause) (u : State) : State :=
  let memory := begun u.supply.low2
    { u.memory with
      clear := none
      queue := if u.supply.low2 then u.memory.queue.take u.memory.begun else u.memory.queue }
  { u with
    station := .restarting
    start := { u.start with
      cause := cause
      drained := decide (memory.queue = [] ∧ memory.flight = none)
      noCoil := decide (u.motion.energized = 0) }
    recallUnit := countsDropped u
    memory := memory
    motion := { u.motion with records := u.motion.records.map asideRecord, queue := [] }
    held := u.panel }

/-! ### Faults (R158) -/

/-- The cause of a kind persists (R158). -/
def persists (s : State) : FaultKind → Prop
  | .stopStuck => ∃ r ∈ s.motion.records, r.state = .stuck
  | .encoder => s.crescendo.held = true
  | .supplyLow1 => s.supply.low1 = true
  | .supplyLow2 => s.supply.low2 = true
  | .linkClash => s.link.listenOnly = true
  | .linkQuality => ∃ p ∈ s.peers.reduceOption, p.alert = true
  | .peerLost => ∃ p ∈ s.peers.reduceOption, p.kind = .combination ∧ p.presence = .absent
  | .memoryCheck | .memoryWrite | .peerTableFull | .config => False

/-! ### The link's identity and the heartbeat (R136, R146) -/

/-- The identity slot 0 gives, or station 1 at 125 kbit/s (R136). -/
def identity (slot0 : Option Content) : Nat × Rate :=
  match slot0 with
  | some c =>
    let number := (c.extractLsb' 0 8).toNat
    let rate := (c.extractLsb' 8 8).toNat
    if 1 ≤ number ∧ number ≤ 15 ∧ (rate = 1 ∨ rate = 2) then (number, if rate = 1 then .k125 else .k250) else (1, .k125)
  | none => (1, .k125)

/-- The heartbeat a station hands (R65, R146). -/
def heartbeatOf (s : State) (state : ReportedState) : Frame :=
  .heartbeat {
    kind := 1, state := state, startFlag := decide (0 < s.start.flagsLeft), cause := s.start.cause,
    sequence := s.start.sequence, summary := s.faults,
    progress := if state = .service then some (s.memory.clearSettled, s.memory.clearTotal) else none }

/-- The Start Controller after a heartbeat was handed and its period begun anew (R146). -/
def heartbeatHanded (c : StartController) : StartController :=
  { c with heartbeatMs := 0, sequence := (c.sequence + 1) % 16, flagsLeft := c.flagsLeft - 1 }

/-! ### Receipt (R134, R143, R145) -/

/-- The command by which a frame of an origin is received (R135). -/
def frameCommand (origin : Nat) : Frame → Instr
  | .registrationChange d stamp drawn => .registrationChange origin d stamp drawn
  | .registrationRefresh d stamp drawn => .registrationRefresh origin d stamp drawn
  | .crescendo content => .crescendo origin content
  | .crescendoRepeat content => .crescendoRepeatReceived origin content
  | .heartbeat content => .heartbeat origin content
  | .faultNotice kind => .faultNoticeReceived origin kind
  | .serviceReply request slot result content => .serviceReplyReceived origin request slot result content
  | .configurationRead target slot => .configurationRead origin target slot
  | .configurationWrite target slot content => .configurationWrite origin target slot content
  | .slotWrite target slot content => .slotWrite origin target slot content
  | .memoryClear target => .memoryClear origin target
  | .restart target => .restart origin target

/-- A frame can come to its end at the station: it is not in Start, and the line is idle, so that the frame begins now, or carries a
frame whose beginning the station took up (R134, R145). -/
def listening (s : State) : Prop :=
  s.station ≠ .off ∧ s.station ≠ .start ∧ (s.link.idle = true ∨ s.link.receiving = true)

/-- s once a frame came to its end: the line is busy since, the yield flag clear, and until the next idle no other frame is received
(R134, R142). -/
def frameTaken (s : State) : State :=
  { s with link := { s.link with idle := false, receiving := false, released := 0, slotsBegun := none, yield := false } }

/-- A frame from another station reaches the station whole: its end comes while the station listens, and it passes R134 (R144,
R145). -/
def heard (s : State) (origin : Nat) (f : Frame) : Prop :=
  listening s ∧ acceptable origin f = true ∧ origin ≠ s.link.number

/-- s once LINE_IDLE or a frame cut short has left the line idle (R133, R134, R140). -/
def lineIdled (s : State) : State :=
  { s with link := { s.link with idle := true, receiving := false, released := 12, slotsBegun := some 0 } }

/-- Byte i of a run of bytes as a number. -/
def byteAt (p : List Byte) (i : Nat) : Nat := (p.getD i 0#8).toNat

/-- The two-byte number at byte i, lowest-order byte first (R171). -/
def wordAt (p : List Byte) (i : Nat) : Nat := byteAt p i + 256 * byteAt p (i + 1)

/-- x stands at byte i in n bytes, lowest-order byte first (R171). -/
def standsAt {w : Nat} (p : List Byte) (i n : Nat) (x : BitVec w) : Prop :=
  ∀ k, k < n → x.extractLsb' (8 * k) 8 = p.getD (i + k) 0#8

/-- A payload has a length that Table 12-2 accepts for its kind, and each field a value that Table 12-3 gives it. What stands in the
bits no field names, and what a target, a request byte and a reply's length may be, is log entry 11. -/
def payloadGood (kind : Nat) (p : List Byte) : Bool :=
  let station := 1 ≤ byteAt p 0 && byteAt p 0 ≤ 15
  match kind with
  | 1 | 4 => p.length == 10 && byteAt p 0 ≤ 7 && 1 ≤ byteAt p 3 && byteAt p 3 ≤ 15
  | 2 | 5 => 9 ≤ p.length && p.length ≤ 51 && (p.length - 3) % 6 == 0 && byteAt p 0 ≤ 3 && byteAt p 1 ≤ 60 && byteAt p 2 ≤ 1
  | 3 => (p.length == 6 || p.length == 10) && 1 ≤ byteAt p 1 && byteAt p 1 ≤ 5 && byteAt p 2 / 16 % 4 != 0 && byteAt p 3 ≤ 15
  | 6 => p.length == 1 && byteAt p 0 ≤ 10
  | 7 => (p.length == 4 && byteAt p 3 ≤ 8 && byteAt p 3 != 7 || p.length == 66 && byteAt p 3 == 7)
    && 8 ≤ byteAt p 0 && byteAt p 0 ≤ 12
  | 8 => p.length == 3 && station
  | 9 | 10 => p.length == 65 && station
  | 11 | 12 => p.length == 1 && station
  | _ => false

/-- The fields of a registration stand in a payload (Table 12-3). -/
def registrationIn (p : List Byte) (d : Nat) (stamp : Stamp) (drawn : StopSet) : Prop :=
  byteAt p 0 = d ∧ standsAt p 1 2 stamp.era ∧ byteAt p 3 = stamp.origin ∧ standsAt p 4 6 drawn

/-- The fields of a crescendo content stand in a payload, one set for each division (Table 12-3). -/
def crescendoIn (p : List Byte) (c : CrescendoContent) : Prop :=
  p.length = 3 + 6 * c.additions.length ∧ byteAt p 0 = c.program ∧ byteAt p 1 = c.stage ∧ byteAt p 2 = c.tutti.toNat
    ∧ ∀ d x, c.additions[d]? = some x → standsAt p (3 + 6 * d) 6 x

/-- The fields of a heartbeat stand in a payload, the clear progress in one of ten bytes (Table 12-3). -/
def heartbeatIn (p : List Byte) (h : HeartbeatContent) : Prop :=
  byteAt p 0 = h.kind
    ∧ [none, some ReportedState.joining, some .awake, some .dormant, some .unconfigured, some .service][byteAt p 1]? = some (some h.state)
    ∧ byteAt p 2 % 2 = h.startFlag.toNat
    ∧ [none, some StartCause.powerOn, some .restartLine, some .restartFrame][byteAt p 2 / 16 % 4]? = some (some h.cause)
    ∧ byteAt p 3 = h.sequence ∧ standsAt p 4 2 h.summary
    ∧ h.progress = if p.length = 10 then some (wordAt p 6, wordAt p 8) else none

/-- The fields of a service reply stand in a payload, the content in one of 66 bytes (Table 12-3). -/
def replyIn (p : List Byte) (request slot : Nat) (result : ReplyResult) (content : Option Content) : Prop :=
  byteAt p 0 = request ∧ wordAt p 1 = slot
    ∧ [ReplyResult.done, .failed, .queueFull, .outOfRange, .notInService, .taken, .refused, .content, .failedCheck][byteAt p 3]? = some result
    ∧ (content.isSome = true ↔ p.length = 66) ∧ ∀ c, content = some c → standsAt p 4 62 c

/-- A frame is what a kind byte and a payload spell (Tables 12-1 to 12-3). -/
def laidOut (kind : Nat) (p : List Byte) : Frame → Prop
  | .registrationChange d stamp drawn => kind = 1 ∧ registrationIn p d stamp drawn
  | .crescendo content => kind = 2 ∧ crescendoIn p content
  | .heartbeat content => kind = 3 ∧ heartbeatIn p content
  | .registrationRefresh d stamp drawn => kind = 4 ∧ registrationIn p d stamp drawn
  | .crescendoRepeat content => kind = 5 ∧ crescendoIn p content
  | .faultNotice k => kind = 6 ∧ kindsInOrder[byteAt p 0]? = some k
  | .serviceReply request slot result content => kind = 7 ∧ replyIn p request slot result content
  | .configurationRead target slot => kind = 8 ∧ byteAt p 0 = target ∧ wordAt p 1 = slot
  | .configurationWrite target slot content => kind = 9 ∧ byteAt p 0 = target ∧ wordAt p 1 = slot ∧ standsAt p 3 62 content
  | .slotWrite target slot content => kind = 10 ∧ byteAt p 0 = target ∧ wordAt p 1 = slot ∧ standsAt p 3 62 content
  | .memoryClear target => kind = 11 ∧ byteAt p 0 = target
  | .restart target => kind = 12 ∧ byteAt p 0 = target

/-- The payload of the bytes of a frame: as many bytes as the length byte says, after origin, kind and length (R172). -/
def payloadOf (bytes : List Byte) : List Byte := (bytes.drop 3).take (byteAt bytes 2)

/-- Bytes that R134 discards: the framing broken, fewer or more bytes than the length byte says, a length above 72, an origin that is
no station number, a check that differs, a kind that is none of the twelve or a length it does not have, or a field out of its
values. -/
def discarded (framing : Option FramingFault) (bytes : List Byte) : Prop :=
  framing ≠ none ∨ bytes.length < 5 ∨ 72 < byteAt bytes 2 ∨ bytes.length ≠ byteAt bytes 2 + 5
    ∨ byteAt bytes 0 = 0 ∨ 15 < byteAt bytes 0
    ∨ crc (bytes.take (bytes.length - 2)) ≠ bytes.getD (bytes.length - 1) 0#8 ++ bytes.getD (bytes.length - 2) 0#8
    ∨ payloadGood (byteAt bytes 1) (payloadOf bytes) = false

/-- A service reply is handed (R137, R169). -/
def replied (s : State) (request slot : Nat) (result : ReplyResult) (content : Option Content) : State :=
  { s with link := handedRoutine s (.serviceReply request slot result content) }

/-! ### Qualification (R121) -/

/-- Equal samples a change needs (R121). -/
def runNeeded : QualificationMode → Nat
  | .direct => 1
  | .three => 3
  | .six => 6

/-- A line after a sample at a level, needing a run of so many (R121). -/
def lineSampled (needed : Nat) (level : Bool) (l : LineState) : LineState :=
  if level = l.qualified then { qualified := l.qualified, run := 0 }
  else if l.run + 1 < needed then { qualified := l.qualified, run := l.run + 1 }
  else { qualified := level, run := 0 }

/-- The level of line n at a sample of its group, after its polarity, true for active (R119, R120). -/
def levelOf (e : LineEntry) (contacts : Byte) (n : Nat) : Bool := contacts.getLsbD (n % 8) != e.inverted

/-- s with the eight lines of group m sampled together (R119, R121). -/
def groupSampled (s : State) (m : Nat) (contacts : Byte) : State :=
  { s with scanner := { s.scanner with
      lines := s.scanner.lines.mapIdx fun n l =>
        match s.config.table[n]? with
        | some e => if n / 8 = m then lineSampled (runNeeded e.mode) (levelOf e contacts n) l else l
        | none => l } }

/-- The command that stands for a completed change of line n, by the line's function; none where no event is formed (R125 to R127;
log entry 5). -/
def changeCommand (f : LineFunction) (n : Nat) (active : Bool) : Option Instr :=
  match f with
  | .stopSense .. => some (.stopSenseChange n active)
  | .consoleKey => some (.consoleKey n active)
  | .set => some (if active then .setPress n else .setRelease n)
  | .divisionCancel _ => some (if active then .divisionCancelPress n else .divisionCancelRelease n)
  | .generalPiston _ => some (if active then .generalPiston n else .lineRelease n)
  | .divisionalPiston .. => some (if active then .divisionalPiston n else .lineRelease n)
  | .generalCancel => some (if active then .generalCancel n else .lineRelease n)
  | .levelUp => some (if active then .levelUp n else .lineRelease n)
  | .levelDown => some (if active then .levelDown n else .lineRelease n)
  | .sequencerNext => some (if active then .sequencerNext n else .lineRelease n)
  | .sequencerPrevious => some (if active then .sequencerPrevious n else .lineRelease n)
  | .tutti => some (if active then .tutti n else .lineRelease n)
  | .crescendoProgram => some (if active then .crescendoProgram n else .lineRelease n)
  | .crescendoSet => some (if active then .crescendoSet n else .lineRelease n)
  | .protect => some (if active then .protect n else .lineRelease n)
  | .faultAcknowledge => some (if active then .faultAcknowledge n else .lineRelease n)
  | .encoderIndex => some (if active then .indexEdge else .lineRelease n)
  | .unused | .protectOverride | .encoderA | .encoderB => none

/-- The commands of the changes that a sample of group m completes, in ascending line order (R121, R125). -/
def sampleCommands (s : State) (m : Nat) (contacts : Byte) : List Instr :=
  (List.range 8).filterMap fun k =>
    match s.scanner.lines[8 * m + k]?, s.config.table[8 * m + k]? with
    | some l, some e =>
      let level := levelOf e contacts (8 * m + k)
      if level ≠ l.qualified ∧ runNeeded e.mode ≤ l.run + 1 then changeCommand e.function (8 * m + k) level else none
    | _, _ => none

/-- t is s after commands were taken one after another. -/
def Runs : List Instr → State → State → Prop
  | [], s, t => t = s
  | c :: rest, s, t => ∃ u, exec c s = .next u ∧ Runs rest u t

/-! ### The indicators (R38, R42, R43, R77, R78, R98 to R100, R161) -/

/-- A console peer whose contribution is in the union (R97). -/
def inUnion (s : State) (q : Peer) : Prop :=
  q ∈ s.peers.reduceOption ∧ q.kind = .combination ∧ q.presence ≠ .absent ∧ q.state = .awake

/-- p shows what the indicators mean in Joining, Awake and Dormant. That a held stage is marked only where it is the figure shown is
log entry 32. -/
structure Meant (s : State) (p : Panel) : Prop where
  piston : ∀ x, p.piston = some x ↔ ∃ l r, s.recallUnit.live = some (l, x) ∧ s.recallUnit.snapshot = some r
    ∧ ∀ d, d < s.divisionCount → r.scope.getLsbD d = true → s.drawn d = setAt r.sets d &&& definedIndices (s.config.controlsOf d)
  set : p.set = decide (0 < s.recallUnit.setCount)
  level : p.level = some s.recallUnit.level
  protect : p.protect = s.recallUnit.protection.getLsbD (s.recallUnit.level - 1)
  sequencer : p.sequencer = some s.sequencer.cursor
  sequencerEnd : p.sequencerEnd = true ↔ s.sequencer.cursor = s.sequencer.steps.length ∧ 1 ≤ s.sequencer.steps.length
  added : ∀ d i, d < 8 → ((setAt p.added d).getLsbD i = true ↔
    (setAt s.crescendo.effective d).getLsbD i = true ∧ (s.drawn d).getLsbD i = false ∧ (setAt s.config.sensed d).getLsbD i = true)
  stage : ∃ n held, p.stage = some (n, held)
    ∧ (∀ q, inUnion s q → q.contribution.stage ≤ n) ∧ (s.station = .awake → s.crescendo.stage ≤ n)
    ∧ (n = 0 ∨ (∃ q, inUnion s q ∧ q.contribution.stage = n) ∨ (s.station = .awake ∧ s.crescendo.stage = n))
    ∧ (held = true ↔ s.station = .awake ∧ s.crescendo.held = true ∧ s.crescendo.stage = n)
  tutti : p.tutti = true ↔
    (s.crescendo.tutti = true ∧ s.station = .awake) ∨ ∃ q, inUnion s q ∧ q.contribution.tutti = true
  program : p.program = some s.crescendo.program
  fault : p.fault = true ↔ ∃ n, s.faults.getLsbD n = true ∧ s.config.routes.lamp.getLsbD n = true
  faultLine : p.faultLine = true ↔ ∃ n, s.faults.getLsbD n = true ∧ s.config.routes.line.getLsbD n = true

/-! ### The configuration block (R123, R167, R175) -/

/-- Byte i of a content as a number (R171). -/
def byteIn (c : Content) (i : Nat) : Nat := (c.extractLsb' (8 * i) 8).toNat

/-- The function of a code of Table 12-5 with its parameter bytes. -/
def functionCoded (code p q : Nat) : LineFunction :=
  [.unused, .stopSense p q, .generalPiston p, .divisionalPiston p q, .set, .generalCancel, .divisionCancel p, .levelUp, .levelDown,
    .sequencerNext, .sequencerPrevious, .tutti, .crescendoProgram, .crescendoSet, .protect, .protectOverride, .consoleKey,
    .faultAcknowledge, .encoderA, .encoderB, .encoderIndex].getD code .unused

/-- The first byte of the line entry of line n (R120, R175). -/
def entryByte (slot : Nat → Content) (n : Nat) : Nat := byteIn (slot (4 + n / 16)) (3 * (n % 16))

/-- The figures the configuration block spells (R120, R175). -/
def figuresIn (slot : Nat → Content) : Configuration where
  number := byteIn (slot 0) 0
  rate := if byteIn (slot 0) 1 = 1 then .k125 else .k250
  layout := {
    divisions := byteIn (slot 1) 0
    controls := (List.range (byteIn (slot 1) 0)).map fun d => byteIn (slot 1) (1 + 2 * d)
    divisionals := (List.range (byteIn (slot 1) 0)).map fun d => byteIn (slot 1) (2 + 2 * d)
    generals := byteIn (slot 1) 17
    levels := byteIn (slot 1) 18
    steps := byteIn (slot 1) 19
    stages := byteIn (slot 1) 20 }
  budget := byteIn (slot 2) 0
  pulse := byteIn (slot 2) 1
  settle := byteIn (slot 2) 2
  closed := byteIn (slot 2) 3
  opened := byteIn (slot 2) 4 + 256 * byteIn (slot 2) 5
  bow := if byteIn (slot 2) 6 < 128 then (byteIn (slot 2) 6 : Int) else (byteIn (slot 2) 6 : Int) - 256
  hysteresis := byteIn (slot 2) 7
  routes := {
    lamp := (slot 3).extractLsb' 0 16
    notice := (slot 3).extractLsb' 16 16
    line := (slot 3).extractLsb' 32 16 }
  policy := [Policy.cancel, .last, .general, .keep].getD (byteIn (slot 3) 6) .keep
  periods := (List.range 48).map fun m => byteIn (slot 3) (7 + m)
  table := (List.range 384).map fun n =>
    { function := functionCoded (entryByte slot n % 32) (byteIn (slot (4 + n / 16)) (3 * (n % 16) + 1))
        (byteIn (slot (4 + n / 16)) (3 * (n % 16) + 2))
      inverted := entryByte slot n / 32 % 2 == 1
      mode := [QualificationMode.direct, .three, .six].getD (entryByte slot n / 64) .six }
  scope := (slot 30).extractLsb' 0 8
  returnGeneral := byteIn (slot 30) 1
  sensed := (List.range 8).map fun d =>
    if byteIn (slot 1) 0 ≤ d then 0#48
    else if d < 4 then (slot 30).extractLsb' (8 * (2 + 6 * d)) 48 else (slot 31).extractLsb' (8 * (6 * (d - 4))) 48

/-- A function's parameters lie within the layout (Table 7-1). -/
def parametersIn (l : Layout) : LineFunction → Prop
  | .stopSense d i => d < l.divisions ∧ i < l.controls.getD d 0
  | .generalPiston g => 1 ≤ g ∧ g ≤ l.generals
  | .divisionalPiston d n => d < l.divisions ∧ 1 ≤ n ∧ n ≤ l.divisionals.getD d 0
  | .divisionCancel d => d < l.divisions
  | _ => True

/-- The conditions of Table 11-2 on the figures c of slots that passed their check, row by row. Bits 11 to 15 of the route sets name
no kind and are not judged (log entry 31). -/
structure Acceptable (slot : Nat → Content) (c : Configuration) : Prop where
  number : 1 ≤ c.number ∧ c.number ≤ 15
  rate : byteIn (slot 0) 1 = 1 ∨ byteIn (slot 0) 1 = 2
  divisions : 1 ≤ c.layout.divisions ∧ c.layout.divisions ≤ 8
  controls : (∀ k ∈ c.layout.controls, 1 ≤ k ∧ k ≤ 48) ∧ c.layout.controls.sum ≤ 256
  pistons : (∀ k ∈ c.layout.divisionals, k ≤ 12) ∧ c.layout.generals ≤ 40
  levels : 1 ≤ c.layout.levels ∧ c.layout.levels ≤ 128
  steps : c.layout.steps % 16 = 0 ∧ c.layout.steps ≤ 240
  stages : 8 ≤ c.layout.stages ∧ c.layout.stages ≤ 60
  budget : 1 ≤ c.budget ∧ c.budget ≤ 16
  pulse : 20 ≤ c.pulse ∧ c.pulse ≤ 120 ∧ c.pulse % 5 = 0
  settle : 10 ≤ c.settle ∧ c.settle ≤ 60 ∧ c.settle % 5 = 0
  shoe : c.closed ≤ 255 ∧ 256 ≤ c.opened ∧ c.opened ≤ 4095 ∧ c.closed + 200 ≤ c.opened
  bow : -127 ≤ c.bow ∧ c.bow ≤ 127 ∧ c.hysteresis ≤ 20
  routes : ∀ k : FaultKind,
    ¬(c.routes.lamp.getLsbD (faultCode k) = true ∧ c.routes.notice.getLsbD (faultCode k) = true)
      ∧ ¬(c.routes.lamp.getLsbD (faultCode k) = true ∧ c.routes.line.getLsbD (faultCode k) = true)
      ∧ ¬(c.routes.notice.getLsbD (faultCode k) = true ∧ c.routes.line.getLsbD (faultCode k) = true)
  policy : byteIn (slot 3) 6 ≤ 3
  periods : ∀ s ∈ c.periods, 1 ≤ s ∧ s ≤ 255
  codes : ∀ n, n < 384 → entryByte slot n % 32 ≤ 20 ∧ entryByte slot n / 64 ≠ 3
  parameters : ∀ e ∈ c.table, parametersIn c.layout e.function
  senseOnce : ∀ d i, (c.table.countP fun e => e.function == .stopSense d i) ≤ 1
  senseDefined : ∀ d i, (setAt c.sensed d).getLsbD i = true ↔ ∃ e ∈ c.table, e.function = .stopSense d i
  encoder : (∀ f ∈ [LineFunction.encoderA, .encoderB, .encoderIndex], (c.table.countP fun e => e.function == f) = 1)
    ∨ ∀ f ∈ [LineFunction.encoderA, .encoderB, .encoderIndex], (c.table.countP fun e => e.function == f) = 0
  scope : ∀ d, c.scope.getLsbD d = true → d < c.layout.divisions
  defined : ∀ d i, (setAt c.sensed d).getLsbD i = true → i < c.layout.controls.getD d 0
  returnGeneral : c.policy = .general → 1 ≤ c.returnGeneral ∧ c.returnGeneral ≤ c.layout.generals
  partition : 32 + c.layout.levels * (c.layout.generals + c.layout.divisionals.sum)
    ≤ 16384 - (4 * c.layout.stages + 1) - c.layout.levels * (c.layout.steps / 16)

end Sys2Proof.Safety
end

