-- ==== Sys2Proof/Certificates/Slice0/Obligations.lean ====
section
/-!
DEFINITION. The statements about the station, for the provers.
-/

open Sys2Proof Sys2Proof.Machine Sys2Proof.Safety

/-! ### The step -/

/-- A step takes the command at the front of the queue and is that command's effect on the station with the rest of the queue. -/
def Obligations.StepTakesTheFrontCommand : Prop :=
  ∀ (c : Instr) (rest : List Instr) (s : State), s.pending = c :: rest → step s = exec c (s.setPending rest)

/-- The model's choice (log entry 3): on an empty queue one millisecond passes. Every running timer moves by one, a window that is
open shrinks by one, and nothing else changes; without power nothing does. -/
def Obligations.EmptyQueueLetsOneMillisecondPass : Prop :=
  ∀ s : State, s.pending = [] →
    step s = .next (if s.station = .off then s else
      let inPlay := s.station = .joining ∨ s.station = .awake ∨ s.station = .dormant
      { s with
        start := { s.start with
          joinMs := if s.station = .joining then s.start.joinMs + 1 else s.start.joinMs
          heartbeatMs := if s.station = .start ∨ s.station = .restarting then s.start.heartbeatMs else s.start.heartbeatMs + 1 }
        memory := { s.memory with
          idle := if inPlay then s.memory.idle + 1 else s.memory.idle
          flight := s.memory.flight.map fun f => { f with ms := f.ms + 1 } }
        motion := { s.motion with records := s.motion.records.map fun r => { r with window := r.window.map (· - 1) } }
        peers := if inPlay then s.peers.map fun p => p.map fun r => { r with age := r.age + 1 } else s.peers
        answers := s.answers.map fun a => { a with ms := a.ms + 1 } })

/-- The model's choice (log entry 24): no command touches the queue of the commands that wait behind it, a loss of power and a start
included. The queue is the model's own; the spec names none. -/
def Obligations.CommandsLeaveTheQueueAlone : Prop :=
  ∀ (c : Instr) (s t : State), exec c s = .next t → t.pending = s.pending

/-- The model's choice (log entry 25): a command stops only where it would write a slot above 16383; every other command in every
state answers a next state, none is refused, and a station whose writes keep to their regions takes every step. -/
def Obligations.CommandsStopOnlyOutsideTheArray : Prop :=
  (∀ (c : Instr) (s : State),
    (∀ r, exec c s ≠ .refused r)
      ∧ ∀ n, exec c s = .fault (.slotOutsideArray n) ↔
          16384 ≤ n ∧ ((∃ found f, c = .writeReadback found ∧ s.memory.flight = some f ∧ f.slot = n)
            ∨ (c = .retentionRefreshWrite ∧ s.refreshMayBegin = true ∧ s.memory.retention = n)))
    ∧ (∀ s : State, regionsOk s → ∃ t, step s = .next t)

/-! ### Invariants -/

/-- The station after reset is sound in every block. What the spec leaves open at reset is the model's choice (log entries 1, 2, 17,
18). -/
def Obligations.ResetIsSound : Prop :=
  Memory.wf State.reset.memory.cells = true ∧ configured State.reset ∧ imageOk State.reset ∧ writesOk State.reset
    ∧ regionsOk State.reset ∧ levelsOk State.reset ∧ crescendoOk State.reset ∧ motionOk State.reset ∧ linkOk State.reset
    ∧ peersOk State.reset ∧ supplyOk State.reset

/-- Every step keeps the array in its canonical form: addresses strictly rising, no entry equal to an unlisted byte. The canonical
form is the model's; an unlisted byte reads 0 by log entry 2. -/
def Obligations.StepKeepsTheArrayCanonical : Prop :=
  ∀ s t : State, Memory.wf s.memory.cells = true → step s = .next t → Memory.wf t.memory.cells = true

/-- Every step keeps the bond of configuration, station state and partition (R49, R166, R168), and one set of defined indices for each
division (R1). -/
def Obligations.StepKeepsConfigurationAndImage : Prop :=
  ∀ s t : State, configured s → imageOk s → step s = .next t → configured t ∧ imageOk t

/-- Every step keeps the write queue within 32 entries, one waiting entry at most for a slot, and the entry being written its head
(R56). -/
def Obligations.StepKeepsTheWriteQueue : Prop :=
  ∀ s t : State, writesOk s → step s = .next t → writesOk t

/-- Every step keeps each write in the region of its source and below slot 16384 (R49). -/
def Obligations.StepKeepsWritesInTheirRegions : Prop :=
  ∀ s t : State, configured s → levelsOk s → crescendoOk s → writesOk s → regionsOk s → step s = .next t → regionsOk t

/-- Every step keeps the level, the cursor and the list's length in their ranges (R67); the ranges of the Crescendo Unit, its hold at
the fourth phase error, and the rest of a console without a shoe (R79, R82, R84, R86); and Low2 implying Low1 (R156). -/
def Obligations.StepKeepsTheRanges : Prop :=
  ∀ s t : State, configured s → step s = .next t →
    (levelsOk s → levelsOk t) ∧ (crescendoOk s → crescendoOk t) ∧ (supplyOk s → supplyOk t)

/-- Every step keeps the motion law (R103, R105, R107): the queue holds each Queued control once and nothing else, only in Awake,
where sensed and target differ; never more than K coils are energized. -/
def Obligations.StepKeepsTheMotionLaw : Prop :=
  ∀ s t : State, configured s → imageOk s → motionOk s → step s = .next t → motionOk t

/-- Every step keeps each transmit queue to frames of its class, no two of one key, so that neither can hold more than 9 urgent and 22
routine frames, within its capacity of 12 and of 24 (R137). It keeps the line busy while the station sends or receives, and the
yield flag clear while it receives another's frame (R134, R142). -/
def Obligations.StepKeepsTheTransmitQueues : Prop :=
  ∀ s t : State, configured s → linkOk s → step s = .next t →
    linkOk t ∧ t.link.urgent.length ≤ 9 ∧ t.link.routine.length ≤ 22

/-- Every step keeps the Peer Table's 14 records in range, no two of one number and kind (R147). -/
def Obligations.StepKeepsThePeerTable : Prop :=
  ∀ s t : State, configured s → peersOk s → step s = .next t → peersOk t

/-- The held stamp of a division only advances (R4): whatever command a station takes in whatever state, each division that has a set
before and after keeps set and stamp, or has a stamp newer than the one it held. A group's sample may hand on up to eight changes
of one division; their eras are successive (R5, R125). -/
def Obligations.StampsOnlyAdvance : Prop :=
  ∀ (c : Instr) (s t : State), configured s → imageOk s → exec c s = .next t →
    ∀ (d : Nat) (v v' : Division), s.image[d]? = some v → t.image[d]? = some v' → v' = v ∨ newer v'.stamp v.stamp = true

/-- Where Low2 stands before and after a command, no pulse and no write began: every coil energized after it was energized before it
(R107), and a write in flight after it is the one in flight before it (R60, R63, R65). -/
def Obligations.NothingBeginsUnderLow2 : Prop :=
  ∀ (c : Instr) (s t : State), exec c s = .next t → s.supply.low2 = true → t.supply.low2 = true →
    (∀ r ∈ t.motion.records, r.coil.isSome = true → ∃ q ∈ s.motion.records, q.key = r.key ∧ q.coil = r.coil)
      ∧ ∀ f, t.memory.flight = some f →
          ∃ g, s.memory.flight = some g ∧ g.slot = f.slot ∧ g.content = f.content ∧ g.kind = f.kind

/-! ### Stamps and local changes -/

/-- The five cases of the stamp order, and what follows from them (R3). -/
def Obligations.StampOrder : Prop :=
  (∀ a b : Stamp, newer a b = true ↔
      let difference := (a.era.toNat + 65536 - b.era.toNat) % 65536
      (a.era ≠ 0#16 ∧ b.era = 0#16)
        ∨ (a.era ≠ 0#16 ∧ b.era ≠ 0#16
          ∧ ((1 ≤ difference ∧ difference ≤ 32767)
            ∨ (difference = 32768 ∧ a.origin > b.origin)
            ∨ (difference = 32768 ∧ a.origin = b.origin ∧ a.era.toNat > b.era.toNat)
            ∨ (a.era = b.era ∧ a.origin > b.origin))))
    ∧ (∀ a b : Stamp, a.era = 0#16 → newer a b = false)
    ∧ (∀ a : Stamp, newer a a = false)
    ∧ ∀ a b : Stamp, a ≠ b → ¬(a.era = 0#16 ∧ b.era = 0#16) → newer a b = !newer b a

/-- Two local changes of one division, one after the other (R5): each takes the era after the one held, 1 after 65535 and after an
unset division, never 0, with the station's own number. -/
def Obligations.LocalChangesTakeSuccessiveEras : Prop :=
  ∀ (s : State) (d : Nat) (x y : StopSet) (v : Division), s.image[d]? = some v →
    let after := fun e : Nat => if e = 65535 then 1 else e + 1
    let t := localChange [(d, x)] s
    let u := localChange [(d, y)] t
    (∃ w, t.image[d]? = some w ∧ w.stamp.era.toNat = after v.stamp.era.toNat ∧ w.stamp.era ≠ 0#16
        ∧ w.stamp.origin = s.link.number)
      ∧ ∃ w, u.image[d]? = some w ∧ w.stamp.era.toNat = after (after v.stamp.era.toNat) ∧ w.stamp.era ≠ 0#16
        ∧ w.stamp.origin = s.link.number

/-- Two received frames for one division, each a registration change or a registration refresh, leave the newer stamp and its set in
either order of arrival, when both are newer than the held stamp (R3, R10, R11). Between the two the line is idle once, and a
frame command on an idle line brings the frame's beginning with it (R134; log entry 35). -/
def Obligations.ReceivedFramesConverge : Prop :=
  ∀ (s : State) (o p d : Nat) (a b : Stamp) (x y : StopSet) (v : Division) (f g : Frame),
    f = .registrationChange d a x ∨ f = .registrationRefresh d a x →
    g = .registrationChange d b y ∨ g = .registrationRefresh d b y →
    heard s o f → heard s p g → s.link.outgoing = none →
    s.station = .joining ∨ s.station = .awake ∨ s.station = .dormant →
    s.image[d]? = some v → newer a v.stamp = true → newer b v.stamp = true → newer a b = true →
    ∃ t u, Runs [frameCommand o f, .lineIdle, frameCommand p g] s t ∧ Runs [frameCommand p g, .lineIdle, frameCommand o f] s u
      ∧ t.image = u.image ∧ t.image[d]? = some { drawn := s.config.restrict d x, stamp := a }

/-! ### Power, start, restart (R46, R165 to R170) -/

/-- Power-on, and the start after Restarting once both drain reports are held, leave the station in Start with every block at its
start value. The array stays; power-on judges the supply first and shows every indicator dark; a start after Restarting keeps the
supply conditions, the recorded cause and the held indicators; the supply kinds in force are latched (R156, R163 to R166, R170).
In any other state the two commands change nothing. The start values are those of R1, R20, R56, R63, R65, R67, R79, R102, R136,
R146 and R147. What the spec leaves open among these values, and the indicators held through Start, are the model's choice (log
entries 1, 15, 17, 18), as is what the commands do in a state where they cannot arise (log entry 6). -/
def Obligations.StartsTakeTheStartValues : Prop :=
  ((∀ (s : State) (mv : Nat), s.station = .off →
      exec (.powerOn mv) s = .next { State.reset with
        pending := s.pending
        memory := { State.reset.memory with cells := s.memory.cells }
        supply := { low1 := decide (mv < 10500), low2 := decide (mv < 9000) }
        faults := (if mv < 10500 then kindBit .supplyLow1 else 0#16) ||| (if mv < 9000 then kindBit .supplyLow2 else 0#16) })
    ∧ (∀ (s : State) (mv : Nat), s.station ≠ .off → exec (.powerOn mv) s = .next s)
    ∧ (∀ s : State, s.station = .restarting → s.start.drained = true → s.start.noCoil = true →
      exec .startAfterRestarting s = .next { State.reset with
        pending := s.pending
        start := { State.reset.start with cause := s.start.cause }
        memory := { State.reset.memory with cells := s.memory.cells }
        supply := s.supply
        faults := (if s.supply.low1 then kindBit .supplyLow1 else 0#16) ||| (if s.supply.low2 then kindBit .supplyLow2 else 0#16)
        held := s.held })
    ∧ ∀ s : State, ¬(s.station = .restarting ∧ s.start.drained = true ∧ s.start.noCoil = true) →
      exec .startAfterRestarting s = .next s)
    ∧ (let s := State.reset
  s.station = .start ∧ s.start.cause = .powerOn ∧ s.cfg = none ∧ s.image = [] ∧ s.refreshPointer = 0
    ∧ s.recallUnit.level = 1 ∧ s.recallUnit.live = none ∧ s.recallUnit.snapshot = none ∧ s.recallUnit.setCount = 0
    ∧ s.sequencer = { steps := [], cursor := 0 }
    ∧ s.memory.queue = [] ∧ s.memory.flight = none ∧ s.memory.retention = 0 ∧ s.memory.clearSettled = 0 ∧ s.memory.clearTotal = 0
    ∧ s.crescendo.count = 0 ∧ s.crescendo.phaseErrors = 0 ∧ s.crescendo.held = false ∧ s.crescendo.program = 0
    ∧ s.crescendo.stage = 0 ∧ s.crescendo.tutti = false ∧ s.crescendo.localAdditions = emptySets
    ∧ s.crescendo.effective = emptySets ∧ s.crescendo.repeatCount = 0
    ∧ s.motion = { records := [], queue := [], energized := 0 }
    ∧ s.start.sequence = 0 ∧ s.start.flagsLeft = 4
    ∧ s.link.urgent = [] ∧ s.link.routine = [] ∧ s.link.outgoing = none ∧ s.link.idle = false ∧ s.link.released = 0
    ∧ s.link.receiving = false ∧ s.link.yield = false ∧ s.link.listenOnly = false
    ∧ s.peers = List.replicate 14 none ∧ s.supply = { low1 := false, low2 := false } ∧ s.faults = 0#16)

/-- Loss of power leaves nothing but the array; the slot whose write was cut short holds its old content, its new content or content
whose check fails, as the command says, and every other slot what it held (R46, R60, R165). Without power it changes nothing. The
torn slot is the command's operand and the other fields of a station without power stand at their reset values by the model's
choice (log entries 1, 7), as is what the command does without power (log entry 6). -/
def Obligations.LossOfPowerKeepsTheArrayAlone : Prop :=
  (∀ (s : State) (torn : TornWrite), s.station ≠ .off → Memory.wf s.memory.cells = true →
    ∃ t, exec (.lossOfPower torn) s = .next t
      ∧ t = { State.reset with
          pending := s.pending, station := .off, memory := { State.reset.memory with cells := t.memory.cells } }
      ∧ (∀ a, (∀ f, s.memory.flight = some f → a < 64 * f.slot ∨ 64 * f.slot + 64 ≤ a) →
          Memory.read t.memory.cells a = Memory.read s.memory.cells a)
      ∧ ∀ f, s.memory.flight = some f →
          match torn with
          | .old => readSlotImage t.memory.cells f.slot = readSlotImage s.memory.cells f.slot
          | .new => readSlotImage t.memory.cells f.slot = slotOf f.content
          | .failing _ _ => arrayContent t.memory.cells f.slot = none)
    ∧ ∀ (s : State) (torn : TornWrite), s.station = .off → exec (.lossOfPower torn) s = .next s

/-- The check of the configuration accepts exactly where slots 0 to 27, 30 and 31 pass their check and the figures they spell hold
every condition of Table 11-2 and R123, and the copy is those figures (R123, R159, R167, R175). That bits 11 to 15 of the route
sets are not judged is log entry 31. -/
def Obligations.AcceptedConfigurationsAreInRange : Prop :=
  ∀ (read : Nat → Option Content) (c : Configuration),
    let slot := fun n => (read n).getD 0#496
    checkConfiguration read = some c ↔
      (∀ n, n < 28 ∨ n = 30 ∨ n = 31 → (read n).isSome = true) ∧ c = figuresIn slot ∧ Acceptable slot c

/-- With the strap active, Start ends in Service: slot 0 alone is read, the identity fixed from it. With the strap inactive and the
configuration refused, it ends in Unconfigured with CONFIG latched. MEMORY_CHECK is latched where a slot read failed its check,
and the first heartbeat is handed; nothing else changes (R131, R136, R146, R166 to R168). That several failing slots latch once is
log entry 26. -/
def Obligations.StartEndsUnplayed : Prop :=
  (∀ (s : State) (contacts : BitVec 384), s.station = .start → s.scanner.strap.qualified = some true →
    let faults := if newest s.memory 0 = none then s.faults ||| kindBit .memoryCheck else s.faults
    exec (.configurationCheck contacts) s = .next { s with
      station := .service
      start := heartbeatHanded s.start
      faults := faults
      link := { s.link with
        number := (identity (newest s.memory 0)).1
        rate := (identity (newest s.memory 0)).2
        routine := waitingWith s.link.routine (heartbeatOf { s with faults := faults } .service) } })
    ∧ (∀ (s : State) (contacts : BitVec 384), s.station = .start → s.scanner.strap.qualified = some false →
    checkConfiguration (newest s.memory) = none →
    let faults := (if failing s.memory (List.range 32) then s.faults ||| kindBit .memoryCheck else s.faults) ||| kindBit .config
    exec (.configurationCheck contacts) s = .next { s with
      station := .unconfigured
      start := heartbeatHanded s.start
      faults := faults
      link := { s.link with
        number := (identity (newest s.memory 0)).1
        rate := (identity (newest s.memory 0)).2
        routine := waitingWith s.link.routine (heartbeatOf { s with faults := faults } .unconfigured) } })

/-- With the strap inactive and the configuration accepted, Start ends in Joining: the copy and its partition held, each line
qualified at its first sample, every division empty at (0, own number), the flags of slot 28, one Unaligned record for each sensed
control, level 1 loaded, the timers begun; the notices of the kinds latched in Start, the first heartbeat and the notice of a slot
of level 1 that fails are handed, and nothing else (R1, R2, R20, R49, R69, R80, R102, R122, R136, R146, R153, R160, R166). Until
the strap has given its state nothing happens (R131), and in another state than Start the command changes nothing. The order of
the hand-overs is the model's choice (log entry 14), as is what the command does in another state (log entry 6). -/
def Obligations.AcceptedConfigurationSendsToJoining : Prop :=
  (∀ (s : State) (contacts : BitVec 384) (c : Configuration),
    s.station = .start → s.scanner.strap.qualified = some false → checkConfiguration (newest s.memory) = some c →
    let faults := if failing s.memory (List.range 32) then s.faults ||| kindBit .memoryCheck else s.faults
    let handed := waitingWith (noticesHanded faults c.routes.notice s.link.routine) (heartbeatOf { s with faults := faults } .joining)
    let levelFails := failing s.memory ((List.range (c.layout.steps / 16)).map fun j => (partitionOf c.layout).seqBase + j)
    ∃ t, exec (.configurationCheck contacts) s = .next t
      ∧ t = { s with
          station := .joining
          cfg := some c
          start := { heartbeatHanded s.start with joinMs := 0 }
          scanner := { s.scanner with
            lines := c.table.mapIdx fun n e => { qualified := contacts.getLsbD n != e.inverted, run := 0 } }
          image := List.replicate c.layout.divisions { drawn := 0#48, stamp := { era := 0#16, origin := c.number } }
          recallUnit := { s.recallUnit with
            cancelCounts := List.replicate c.layout.divisions 0
            protection := ((newest s.memory 28).getD 0#496).extractLsb' 0 128 }
          sequencer := { steps := t.storedSteps 1, cursor := 0 }
          memory := { s.memory with partition := some (partitionOf c.layout), idle := 0 }
          crescendo := { s.crescendo with
            refA := t.stateOfFunction .encoderA, refB := t.stateOfFunction .encoderB, effective := t.formedEffective }
          motion := {
            records := c.sensedControls.map fun k =>
              { d := k.1, i := k.2, target := false, sensed := t.stateOfFunction (.stopSense k.1 k.2), state := .unaligned,
                retry := 0, window := none, coil := none }
            queue := []
            energized := 0 }
          link := { s.link with
            number := c.number
            rate := c.rate
            routine := if levelFails ∧ c.routes.notice.getLsbD (faultCode .memoryCheck) = true
              then waitingWith handed (.faultNotice .memoryCheck) else handed }
          faults := if levelFails then faults ||| kindBit .memoryCheck else faults })
    ∧ (∀ (s : State) (contacts : BitVec 384), s.station = .start → s.scanner.strap.qualified = none →
        exec (.configurationCheck contacts) s = .next s)
    ∧ ∀ (s : State) (contacts : BitVec 384), s.station ≠ .start → exec (.configurationCheck contacts) s = .next s

/-- The restart line's press and a Restart frame for this station bring it into Restarting with their cause; in Restarting they change
nothing of it, the recorded cause standing (R61, R65, R116, R130, R164, R169, R170). The model's choices: the command stands for
the completed press and sets the line itself (log entry 5), running lamp answers run on (log entry 16), the cause is recorded in
the field of the heartbeat (log entry 33), from Start the number stays as it stands (log entry 39), a pulse's remaining time stays
in its record's window (log entry 40), and a frame command moves the line view as log entry 35 says. -/
def Obligations.RestartsEnterRestarting : Prop :=
  (∀ s : State, s.station ≠ .off → s.station ≠ .restarting →
      let u := { s with scanner := restartPressed s }
      exec .restartLinePress s = .next (restartingEntered .restartLine u))
    ∧ (∀ s : State, s.station = .restarting →
      exec .restartLinePress s =
        .next { s with scanner := restartPressed s })
    ∧ (∀ (s : State) (o : Nat), heard s o (.restart s.link.number) → s.station ≠ .restarting →
      exec (.restart o s.link.number) s = .next (restartingEntered .restartFrame (frameTaken s)))
    ∧ (∀ (s : State) (o target : Nat), heard s o (.restart target) → target ≠ s.link.number ∨ s.station = .restarting →
      exec (.restart o target) s = .next (frameTaken s))

/-- Join end applies the power-return policy to the divisions still at era 0 as one local change, then enters Awake where the console
is on and Dormant where it is off (R9, R154). In any other state the command changes nothing. That a command which cannot arise
changes nothing is log entry 4. The time that remains of a pulse stays in its record's window (log entry 40). -/
def Obligations.JoinEndAppliesThePolicy : Prop :=
  (∀ s : State, s.station = .joining → configured s → imageOk s → motionOk s →
    let unset := (List.range s.divisionCount).filter fun d => (s.image[d]?.map (·.stamp.era)) == some 0#16
    let general := s.bases.levelBase + (s.config.returnGeneral - 1)
    let slots := match s.config.policy with
      | .last => [29]
      | .general => [general]
      | .cancel | .keep => []
    let changes := match s.config.policy with
      | .keep => []
      | .cancel => unset.map fun d => (d, 0#48)
      | .last => unset.map fun d => (d, ((newest s.memory 29).getD 0#496).extractLsb' (48 * d) 48)
      | .general => match newest s.memory general with
        | some c => (unset.filter fun d => c.getLsbD d).map fun d => (d, c.extractLsb' (8 + 48 * d) 48)
        | none => []
    let v := afterReads slots { s with start := { s.start with joinMs := 1000 } }
    let u := changedBy changes v
    ∃ t, exec .joinEnd s = .next t
      ∧ (s.consoleOn = true → AwakeEntered u t) ∧ (s.consoleOn = false → DormantEntered u t))
    ∧ ∀ s : State, s.station ≠ .joining → exec .joinEnd s = .next s

/-! ### The console's lines (R119 to R131) -/

/-- A sample of a group is this (R119 to R121, R125, R127): each of its eight lines takes its sample by R121 and no other line is
touched; then the changes completed are handed on in ascending line order, each event whole before the next, as the commands of
those lines would be, on the lines as sampled; last, where the group holds Encoder A or Encoder B, the pair of their qualified
states is handed to the Crescendo Unit, the lines standing as sampled. Unused, Protect override, Encoder A and Encoder B form no
event. Without a line table no group is sampled (R119). That a sample hands its events on itself, and what it does without a
table, is the model's choice (log entries 5, 6). -/
def Obligations.GroupSampleQualifiesAndHandsOn : Prop :=
  (∀ (s : State) (m : Nat) (contacts : Byte), s.cfg.isSome = true → configured s → m < 48 →
    let track := ∃ n e, n / 8 = m ∧ s.config.table[n]? = some e ∧ (e.function = .encoderA ∨ e.function = .encoderB)
    ∃ v t, Runs (sampleCommands s m contacts) (groupSampled s m contacts) v ∧ exec (.groupSample m contacts) s = .next t
      ∧ (¬ track → t = v)
      ∧ (track → exec (.encoderHandover (v.stateOfFunction .encoderA) (v.stateOfFunction .encoderB)) v = .next t ∧ t.scanner = v.scanner))
    ∧ ∀ (s : State) (m : Nat) (contacts : Byte), s.cfg = none ∨ 48 ≤ m → exec (.groupSample m contacts) s = .next s

/-- A sample of the fixed lines (R130, R131): each line's first sample after a start, and its run of 6 equal samples later on; a press
of the restart line that it completes is a restart press, and without one only the two lines change. Without power neither line is
sampled. How the first samples after a start are counted is log entry 18, and what the commands do without power log entry 6. -/
def Obligations.FixedLineSampleQualifiesBothLines : Prop :=
  (∀ (s : State) (a b : Bool), s.station ≠ .off →
    let line := fun (q level : Bool) (run : Nat) =>
      ({ qualified := some (lineSampled 6 level { qualified := q, run := run }).qualified, level := level,
         run := (lineSampled 6 level { qualified := q, run := run }).run } : FixedLine)
    let r := match s.scanner.restart.qualified with
      | none => ({ qualified := some a, level := a, run := 0 } : FixedLine)
      | some q => line q a s.scanner.restart.run
    let p := match s.scanner.strap.qualified with
      | none =>
        let run := if s.scanner.strap.run ≠ 0 ∧ b = s.scanner.strap.level then s.scanner.strap.run + 1 else 1
        if run < 6 then ({ qualified := none, level := b, run := run } : FixedLine) else { qualified := some b, level := b, run := 0 }
      | some q => line q b s.scanner.strap.run
    let u := { s with scanner := { s.scanner with restart := r, strap := p } }
    exec (.fixedLineSample a b) s =
      if s.scanner.restart.qualified = some false ∧ a = true ∧ 6 ≤ s.scanner.restart.run + 1 then exec .restartLinePress u else .next u)
    ∧ ∀ (s : State) (a b : Bool), s.station = .off → exec (.fixedLineSample a b) s = .next s ∧ exec .restartLinePress s = .next s

/-- Outside Awake no control of the console acts: a press, a Set release or a Division cancel release qualifies its line and does
nothing else (R21, R70, R80, R128). The release of a piston, General cancel or level line in Awake restarts the idle timer (R45,
R62; log entry 42); the release of any other control, and any release outside Awake, only qualifies the line (R70, R83, R92,
R125). The model's choice (log entry 6): a command that names a line of another function changes nothing. A command completes its
line's change by itself (log entry 5), and one for a line already qualified so is taken like any other (log entry 36). -/
def Obligations.ControlsActInAwakeAlone : Prop :=
  (∀ (s : State) (n g d k : Nat) (f : LineFunction) (c : Instr), s.station ≠ .awake → s.functionOfLine n = f →
    (f, c) ∈ [(.generalPiston g, Instr.generalPiston n), (.divisionalPiston d k, .divisionalPiston n), (.set, .setPress n),
      (.generalCancel, .generalCancel n), (.divisionCancel d, .divisionCancelPress n), (.levelUp, .levelUp n),
      (.levelDown, .levelDown n), (.protect, .protect n), (.sequencerNext, .sequencerNext n),
      (.sequencerPrevious, .sequencerPrevious n), (.tutti, .tutti n), (.crescendoProgram, .crescendoProgram n),
      (.crescendoSet, .crescendoSet n)] →
    exec c s = .next (atLine s n true)
      ∧ (f = .set → exec (.setRelease n) s = .next (atLine s n false))
      ∧ (f = .divisionCancel d → exec (.divisionCancelRelease n) s = .next (atLine s n false)))
    ∧ (∀ (s : State) (n : Nat), (s.functionOfLine n).plainRelease = true →
    exec (.lineRelease n) s = .next (
      if s.station = .awake ∧ ((s.functionOfLine n).isGeneralPiston = true ∨ (s.functionOfLine n).isDivisionalPiston = true
          ∨ s.functionOfLine n ∈ [.generalCancel, .levelUp, .levelDown]) then atEvent s n false
      else atLine s n false))
    ∧ (∀ (s : State) (n : Nat) (v : Bool) (carries : LineFunction → Bool) (c : Instr),
    (carries, c) ∈ [(LineFunction.isStopSense, Instr.stopSenseChange n v), (LineFunction.isGeneralPiston, .generalPiston n),
      (LineFunction.isDivisionalPiston, .divisionalPiston n), ((· == .set), .setPress n), ((· == .set), .setRelease n),
      ((· == .generalCancel), .generalCancel n), (LineFunction.isDivisionCancel, .divisionCancelPress n),
      (LineFunction.isDivisionCancel, .divisionCancelRelease n), ((· == .levelUp), .levelUp n), ((· == .levelDown), .levelDown n),
      ((· == .protect), .protect n), ((· == .sequencerNext), .sequencerNext n), ((· == .sequencerPrevious), .sequencerPrevious n),
      ((· == .tutti), .tutti n), ((· == .crescendoProgram), .crescendoProgram n), ((· == .crescendoSet), .crescendoSet n),
      (LineFunction.plainRelease, .lineRelease n), ((· == .consoleKey), .consoleKey n v),
      ((· == .faultAcknowledge), .faultAcknowledge n)] →
    carries (s.functionOfLine n) = false → exec c s = .next s)

/-- The Console key moves an Awake station to Dormant when the console becomes off, and a Dormant one to Awake when it becomes on, the
encoder's reference pair taken afresh; otherwise it only qualifies its line (R80, R116, R117, R128, R129, R155). The console is on
while some line carrying Console key is qualified active, or where none carries it (R129). The time that remains of a pulse stays
in its record's window (log entry 40). -/
def Obligations.ConsoleKeyMovesTheStation : Prop :=
  (∀ s : State, s.consoleOn = true ↔ (∀ e ∈ s.config.table, e.function ≠ .consoleKey) ∨ lineActive s .consoleKey)
    ∧ ∀ (s : State) (n : Nat) (active : Bool), s.functionOfLine n = .consoleKey → motionOk s →
    let u := atLine s n active
    ∃ t, exec (.consoleKey n active) s = .next t
      ∧ (s.station = .awake ∧ u.consoleOn = false → DormantEntered u t)
      ∧ (s.station = .dormant ∧ u.consoleOn = true →
          AwakeEntered { u with crescendo := { u.crescendo with
            refA := u.stateOfFunction .encoderA, refB := u.stateOfFunction .encoderB } } t)
      ∧ (¬(s.station = .awake ∧ u.consoleOn = false) ∧ ¬(s.station = .dormant ∧ u.consoleOn = true) → t = u)

/-! ### Recall, cancel and Set (R24 to R45) -/

/-- A piston press in Awake without Set recalls the piston of the current level, or is refused where its slot fails its check; a
recall taken lights the piston's lamp (R24 to R27, R42, R45). -/
def Obligations.PistonRecall : Prop :=
  ∀ (s : State) (n : Nat) (p : Piston) (c : Instr), s.station = .awake → s.setIsHeld = false → configured s → imageOk s →
    ((∃ g, p = .general g ∧ s.functionOfLine n = .generalPiston g ∧ c = .generalPiston n)
      ∨ ∃ d k, p = .divisional d k ∧ s.functionOfLine n = .divisionalPiston d k ∧ c = .divisionalPiston n) →
    ∃ t, exec c s = .next t ∧ Recalled p (atEvent s n true) t
      ∧ (newest s.memory (slotOfPiston s p) ≠ none → t.litPiston = some p)

/-- A piston press in Awake with Set held captures the drawn sets onto the piston of the current level: a general's scope is the
configured one less the divisions whose cancel count is above 0, a divisional's its own division. It is refused on a protected
level without override, under Low2, and where the queue has no entry to give: the Set lamp answers with 3 blinks and nothing else
changes (R31 to R36, R40, R45). -/
def Obligations.PistonCapture : Prop :=
  ∀ (s : State) (n : Nat) (p : Piston) (c : Instr) (r : Record), s.station = .awake → s.setIsHeld = true →
    ((∃ g, p = .general g ∧ s.functionOfLine n = .generalPiston g ∧ c = .generalPiston n
        ∧ ∀ d, r.scope.getLsbD d = (s.config.scope.getLsbD d && s.recallUnit.cancelCounts.getD d 0 == 0))
      ∨ ∃ d k, p = .divisional d k ∧ s.functionOfLine n = .divisionalPiston d k ∧ c = .divisionalPiston n
        ∧ ∀ e, e < 8 → r.scope.getLsbD e = (e == d)) →
    (r.sets = (List.range 8).map fun d => if r.scope.getLsbD d then s.drawn d else 0#48) →
    let u := atEvent s n true
    let refused := (s.levelProtected = true ∧ s.overrideActive = false) ∨ s.supply.low2 = true ∨ ¬ roomFor s [slotOfPiston s p]
    (refused → exec c s = .next { u with answers := answered s .set 3 })
      ∧ (¬ refused → exec c s = .next { u with
          memory := written u [{ slot := slotOfPiston s p, content := Record.content r, source := .capture }]
          recallUnit := { s.recallUnit with live := some (s.recallUnit.level, p), snapshot := some r } })

/-- A Set line's press raises the Set count, its release lowers a count above 0, and nothing else changes but the line and the idle
timer (R31, R45). A Division cancel press raises the division's cancel count and, without Set, empties the division; a release
lowers a count above 0 (R30, R32). A press or release of a line already qualified so is counted like any other (log entry 36). -/
def Obligations.HeldControlsAreCounted : Prop :=
  (∀ (s : State) (n : Nat), s.station = .awake → s.functionOfLine n = .set →
    exec (.setPress n) s =
        .next { atEvent s n true with recallUnit := { s.recallUnit with setCount := s.recallUnit.setCount + 1 } }
      ∧ exec (.setRelease n) s =
        .next { atEvent s n false with recallUnit := { s.recallUnit with setCount := s.recallUnit.setCount - 1 } })
    ∧ (∀ (s : State) (n d : Nat), s.station = .awake → s.functionOfLine n = .divisionCancel d → imageOk s →
    let count := fun k => { s.recallUnit with cancelCounts := s.recallUnit.cancelCounts.set d k }
    let u := { atEvent s n true with recallUnit := count (s.recallUnit.cancelCounts.getD d 0 + 1) }
    (s.setIsHeld = true → exec (.divisionCancelPress n) s = .next u)
      ∧ (s.setIsHeld = false → exec (.divisionCancelPress n) s = .next (changedBy [(d, 0#48)] u))
      ∧ exec (.divisionCancelRelease n) s =
          .next { atEvent s n false with recallUnit := count (s.recallUnit.cancelCounts.getD d 0 - 1) })

/-- A General cancel press in Awake empties every division, turns local tutti off and leaves no live piston (R7, R29, R45, R92). That
the registration frames are handed before the crescendo frame is log entry 38. -/
def Obligations.GeneralCancelEmptiesEveryDivision : Prop :=
  ∀ (s : State) (n : Nat), s.station = .awake → s.functionOfLine n = .generalCancel → imageOk s →
    ∃ t, exec (.generalCancel n) s = .next t ∧ Cancelled (atEvent s n true) t

/-- The indicators by station state: their meanings in Joining, Awake and Dormant, the fault outputs alone in Unconfigured and
Service, in Restarting and the Start that follows what they showed at its entry, nothing without power; a lamp's answer of n
blinks shows in place of its meaning and touches no other lamp (R38, R42 to R44, R77, R78, R98 to R101, R132, R161, R164; log
entries 15, 32). Without a configuration every kind stands in the Lamp and Line sets and none in the Notice set (R159). A level
press in Awake changes the level by one, clears the live piston and loads the new level's list; at a limit it changes nothing but
the line and the idle timer (R22, R23, R45, R69). A Protect press toggles the current level's flag and queues slot 28 where the
override is given, a line carrying Protect override being active, and the queue can take the slot; else the Set lamp answers with
3 blinks (R39, R40). The end of a lamp answer leaves the lamp its meaning and every other answer running (R44). -/
def Obligations.LevelsProtectionAndLampAnswers : Prop :=
  (∀ (s : State) (n level : Nat) (c : Instr) (limit : Prop), s.station = .awake →
    ((s.functionOfLine n = .levelUp ∧ c = .levelUp n ∧ level = s.recallUnit.level + 1
        ∧ (limit ↔ s.config.layout.levels ≤ s.recallUnit.level))
      ∨ (s.functionOfLine n = .levelDown ∧ c = .levelDown n ∧ level = s.recallUnit.level - 1 ∧ (limit ↔ s.recallUnit.level ≤ 1))) →
    (limit → exec c s = .next (atEvent s n true))
      ∧ (¬ limit → ∃ t, exec c s = .next t
          ∧ t = { afterReads ((List.range (s.config.layout.steps / 16)).map fun j =>
                    s.bases.seqBase + (level - 1) * (s.config.layout.steps / 16) + j) (atEvent s n true) with
              recallUnit := { s.recallUnit with level := level, live := none, snapshot := none }
              sequencer := { steps := t.storedSteps level, cursor := 0 } }))
    ∧ (∀ s : State, s.overrideActive = true ↔ lineActive s .protectOverride)
    ∧ (∀ (s : State) (n : Nat), s.station = .awake → s.functionOfLine n = .protect →
    let u := atLine s n true
    let flags := s.recallUnit.protection ^^^ BitVec.ofNat 128 (2 ^ (s.recallUnit.level - 1))
    (s.overrideActive = true ∧ roomFor s [28] → exec (.protect n) s = .next { u with
        memory := written u [{ slot := 28, content := protectionContent s.config.layout.levels flags, source := .protection }]
        recallUnit := { s.recallUnit with protection := flags } })
      ∧ (¬(s.overrideActive = true ∧ roomFor s [28]) → exec (.protect n) s = .next { u with answers := answered s .set 3 }))
    ∧ (∀ (s : State) (l : Lamp), ∃ t, exec (.lampAnswerEnd l) s = .next t
    ∧ t = { s with answers := t.answers }
    ∧ (t.lamp l = if s.lampLit l = true then .lit else .dark)
    ∧ ∀ k, k ≠ l → t.lamp k = s.lamp k)
    ∧ (∀ s : State,
      let fault := fun (routed : FaultSet) (shown : Bool) => shown = true ↔ ∃ n, s.faults.getLsbD n = true ∧ routed.getLsbD n = true
      (s.station = .joining ∨ s.station = .awake ∨ s.station = .dormant → Meant s s.panel)
        ∧ (s.station = .unconfigured ∨ s.station = .service →
            s.panel = { darkPanel with fault := s.panel.fault, faultLine := s.panel.faultLine }
              ∧ fault s.config.routes.lamp s.panel.fault ∧ fault s.config.routes.line s.panel.faultLine)
        ∧ (s.station = .restarting ∨ s.station = .start → s.panel = s.held)
        ∧ (s.station = .off → s.panel = darkPanel))
    ∧ (∀ (s : State) (k : FaultKind), s.cfg = none →
        s.config.routes.lamp.getLsbD (faultCode k) = true ∧ s.config.routes.line.getLsbD (faultCode k) = true
          ∧ s.config.routes.notice.getLsbD (faultCode k) = false)
    ∧ ∀ s : State,
      (∀ p, s.lampLit (.piston p) = true ↔ s.panel.piston = some p) ∧ s.lampLit .set = s.panel.set
        ∧ s.lampLit .sequencerEnd = s.panel.sequencerEnd
        ∧ (∀ l, (∀ a ∈ s.answers, a.lamp ≠ l) → s.lamp l = if s.lampLit l = true then .lit else .dark)
        ∧ ∀ l n, ({ s with answers := answered s l n } : State).lamp l = .blinking n
            ∧ ∀ k, k ≠ l → ({ s with answers := answered s l n } : State).lamp k = s.lamp k

/-! ### The Sequencer (R67 to R76) -/

/-- Next and Previous in Awake without Set move the cursor and perform the step there: a step in range as its piston or General cancel
would act, a step out of range recalling nothing. At the end of the list Next answers with 2 blinks of the end lamp; Previous at
cursor 0 or 1 does nothing (R28, R68, R70 to R73). A step of General cancel hands its frames as log entry 38 says. -/
def Obligations.SequencerSteps : Prop :=
  ∀ (s : State) (n cursor blinks : Nat) (c : Instr) (x : SequenceStep), s.station = .awake → s.setIsHeld = false → configured s →
    imageOk s → levelsOk s →
    ((s.functionOfLine n = .sequencerNext ∧ c = .sequencerNext n ∧ cursor = s.sequencer.cursor + 1 ∧ blinks = 2)
      ∨ (s.functionOfLine n = .sequencerPrevious ∧ c = .sequencerPrevious n ∧ cursor = s.sequencer.cursor - 1 ∧ blinks = 0)) →
    let moved := { atLine s n true with sequencer := { s.sequencer with cursor := cursor } }
    let taken := { moved with memory := { s.memory with idle := 0 } }
    (1 ≤ cursor → s.sequencer.steps[cursor - 1]? = some x → ∃ t, exec c s = .next t
        ∧ match x with
          | .general g => if 1 ≤ g ∧ g ≤ s.config.layout.generals then Recalled (.general g) taken t else t = moved
          | .divisional d k =>
            if d < s.divisionCount ∧ 1 ≤ k ∧ k ≤ s.config.layout.divisionals.getD d 0 then Recalled (.divisional d k) taken t
            else t = moved
          | .generalCancel => Cancelled taken t)
      ∧ (blinks = 2 → s.sequencer.cursor = s.sequencer.steps.length →
          exec c s = .next { atLine s n true with answers := answered s .sequencerEnd 2 })
      ∧ (blinks = 0 → s.sequencer.cursor ≤ 1 → exec c s = .next (atLine s n true))

/-- Next under Set inserts the live piston, or General cancel where there is none, after the cursor; Previous under Set deletes the
step at the cursor. Every sequence slot from the place of the change to the list's last is queued, formed whole. A full list, a
cursor of 0, a protected level without override or a queue without room refuses the edit: the Set lamp answers with 3 blinks (R37,
R40, R74 to R76). The parameter bytes that an entry's kind does not use are written as log entry 43 says. -/
def Obligations.SequencerEdits : Prop :=
  ∀ (s : State) (n cursor first last : Nat) (c : Instr) (barred : Prop) (steps : List SequenceStep),
    s.station = .awake → s.setIsHeld = true → levelsOk s →
    ((s.functionOfLine n = .sequencerNext ∧ c = .sequencerNext n ∧ cursor = s.sequencer.cursor + 1
        ∧ steps = s.sequencer.steps.take s.sequencer.cursor
            ++ (match s.recallUnit.live with
                | some (_, .general g) => SequenceStep.general g
                | some (_, .divisional d k) => .divisional d k
                | none => .generalCancel) :: s.sequencer.steps.drop s.sequencer.cursor
        ∧ first = s.sequencer.cursor / 16 ∧ last = s.sequencer.steps.length / 16
        ∧ (barred ↔ s.sequencer.steps.length = s.config.layout.steps))
      ∨ (s.functionOfLine n = .sequencerPrevious ∧ c = .sequencerPrevious n ∧ cursor = s.sequencer.cursor - 1
        ∧ steps = s.sequencer.steps.take (s.sequencer.cursor - 1) ++ s.sequencer.steps.drop s.sequencer.cursor
        ∧ first = (s.sequencer.cursor - 1) / 16 ∧ last = (s.sequencer.steps.length - 1) / 16
        ∧ (barred ↔ s.sequencer.cursor = 0))) →
    let u := atLine s n true
    let slot := fun j => s.bases.seqBase + (s.recallUnit.level - 1) * (s.config.layout.steps / 16) + j
    let named := (List.range (last + 1 - first)).map fun k => first + k
    let refused := barred ∨ (s.levelProtected = true ∧ s.overrideActive = false) ∨ ¬ roomFor s (named.map slot)
    (refused → exec c s = .next { u with answers := answered s .set 3 })
      ∧ (¬ refused → exec c s = .next { u with
          memory := written u (named.map fun j => { slot := slot j, content := sequenceContent steps j, source := .sequence })
          sequencer := { steps := steps, cursor := cursor } })

/-- What the station forms as a record reads back as it was formed (R174): the sets of a stage, tutti or last registration record, a
piston record, the sixteen entries of a sequence slot, none beyond the list, and the protection flags, those above level L open
(R48). An entry of no step kind is none, and a level's list is its entries up to the first none, a failed slot being none
throughout (R69). A slot's newest content is that of its entry not yet begun, else of the write in flight of it, else of the array
where the check agrees (R47, R55). A clear goes through slots 28 and 29, the level region and the sequence and crescendo regions
in ascending order, and writes the empty record of each kind (R54, R65), the parameter bytes of an entry "none" as 0 (log entry
43). -/
def Obligations.RecordsReadBackAsFormed : Prop :=
  (∀ l : Sets, l.length = 8 → unpackSets (setsContent l) 0 = l)
    ∧ (∀ r : Record, r.sets.length = 8 → recordOf (Record.content r) = r ∧ recordIn (Record.content r) = r)
    ∧ (∀ (steps : List SequenceStep) (j place : Nat), place < 16 →
        (∀ x ∈ steps, match x with | .general g => g < 256 | .divisional d n => d < 256 ∧ n < 256 | .generalCancel => True) →
        stepAt (sequenceContent steps j) place = steps[16 * j + place]?)
    ∧ (∀ c : Content, SlotImage.content (slotOf c) = c ∧ SlotImage.passes (slotOf c) = true)
    ∧ (∀ (levels : Nat) (flags : BitVec 128) (i : Nat),
        (protectionContent levels flags).getLsbD i = (decide (i < levels) && flags.getLsbD i))
    ∧ (∀ (c : Content) (place : Nat), stepAt c place =
        if byteIn c (3 * place) = 1 then some (.general (byteIn c (3 * place + 1)))
        else if byteIn c (3 * place) = 2 then some (.divisional (byteIn c (3 * place + 1)) (byteIn c (3 * place + 2)))
        else if byteIn c (3 * place) = 3 then some .generalCancel else none)
    ∧ (∀ (s : State) (level : Nat),
        let slots := s.config.layout.steps / 16
        (s.storedSteps level).map some = ((List.range (16 * slots)).map fun p =>
          (newest s.memory (s.bases.seqBase + (level - 1) * slots + p / 16)).bind fun c => stepAt c (p % 16)).takeWhile Option.isSome)
    ∧ (∀ s : State, writesOk s →
        let notBegun := match s.memory.flight with
          | some f => if f.kind = FlightKind.queue then s.memory.queue.tail else s.memory.queue
          | none => s.memory.queue
        let image := fun n => readSlotImage s.memory.cells n
        (∀ e ∈ notBegun, newest s.memory e.slot = some e.content)
          ∧ (∀ f, s.memory.flight = some f → (∀ e ∈ notBegun, e.slot ≠ f.slot) → newest s.memory f.slot = some f.content)
          ∧ (∀ n, (∀ e ∈ notBegun, e.slot ≠ n) → (∀ f, s.memory.flight = some f → f.slot ≠ n) →
              newest s.memory n =
                if crc ((List.range 62).map fun b => (image n).extractLsb' (8 * b) 8) = (image n).extractLsb' 496 16
                then some ((image n).extractLsb' 0 496) else none)
          ∧ ∀ n b, b < 64 → (image n).extractLsb' (8 * b) 8 = Memory.read s.memory.cells (64 * n + b))
    ∧ ∀ c : Clear, layoutOk c.layout = true → c.layout.fits = true → c.layout.divisionals.length = c.layout.divisions →
        c.partition = partitionOf c.layout →
        let l := c.layout
        let size := l.generals + l.divisionals.sum
        let total := 2 + l.levels * size + l.levels * (l.steps / 16) + (4 * l.stages + 1)
        clearSlot c 0 = 28 ∧ clearSlot c 1 = 29
          ∧ (∀ k, k < l.levels * size → clearSlot c (2 + k) = 32 + k)
          ∧ (∀ k, 2 + l.levels * size + k < total → clearSlot c (2 + l.levels * size + k) = 16384 - (total - 2 - l.levels * size) + k)
          ∧ (∀ j k, j < k → k < total → clearSlot c j < clearSlot c k ∧ clearSlot c k < 16384)
          ∧ (∀ level g, level < l.levels → g < l.generals → clearContent c (2 + level * size + g) = c.scope.setWidth 496)
          ∧ (∀ level d n k, level < l.levels → l.divisionals[d]? = some k → n < k →
              clearContent c (2 + level * size + l.generals + (l.divisionals.take d).sum + n) = BitVec.ofNat 496 (2 ^ d))
          ∧ ∀ k, k < 2 ∨ 2 + l.levels * size ≤ k → clearContent c k = 0#496

/-! ### Crescendo and tutti (R79 to R97) -/

/-- A Tutti press in Awake without Set toggles local tutti, and a Crescendo program press goes to the next program of the cycle; the
local additions are formed anew (R89, R92, R94, R95). A Crescendo set press without Set is not acted on (R90). -/
def Obligations.TuttiAndProgramPresses : Prop :=
  ∀ (s : State) (n : Nat), s.station = .awake →
    (s.functionOfLine n = .tutti → s.setIsHeld = false →
        ∃ t, exec (.tutti n) s = .next t
          ∧ AdditionsFormed s.crescendo { atLine s n true with crescendo := { s.crescendo with tutti := !s.crescendo.tutti } } t)
      ∧ (s.functionOfLine n = .crescendoProgram →
        ∃ t, exec (.crescendoProgram n) s = .next t
          ∧ AdditionsFormed s.crescendo
              { atLine s n true with crescendo := { s.crescendo with program := (s.crescendo.program + 1) % 4 } } t)
      ∧ (s.functionOfLine n = .crescendoSet → s.setIsHeld = false → exec (.crescendoSet n) s = .next (atLine s n true))

/-- With Set held, Crescendo set captures the drawn sets less the stages below as the increment of the present stage, and Tutti the
drawn sets as the tutti record; the local additions follow. A capture is refused under Low2 or without room in the queue, a stage
capture at program 0, stage 0 or a held stage too: the Set lamp answers with 3 blinks (R37, R90, R91, R93). That several failing
slots latch once is log entry 26. -/
def Obligations.CrescendoCaptures : Prop :=
  ∀ (s : State) (n : Nat), s.station = .awake → s.setIsHeld = true →
    let u := atLine s n true
    let slot := s.bases.cresBase + s.crescendo.program * s.config.layout.stages + (s.crescendo.stage - 1)
    let below := (List.range (s.crescendo.stage - 1)).map fun k =>
      s.bases.cresBase + s.crescendo.program * s.config.layout.stages + k
    let stageRefused := s.crescendo.program = 0 ∨ s.crescendo.stage = 0 ∨ s.crescendo.held = true ∨ s.supply.low2 = true
      ∨ ¬ roomFor s [slot]
    let increment := (List.range 8).map fun d =>
      s.drawn d &&& ~~~ setAt (s.cumulative s.crescendo.program (s.crescendo.stage - 1)) d
    let tuttiRefused := s.supply.low2 = true ∨ ¬ roomFor s [16383]
    let w := { u with memory := written u [{ slot := 16383, content := setsContent s.drawnSets, source := .tutti }] }
    (s.functionOfLine n = .crescendoSet → stageRefused → exec (.crescendoSet n) s = .next { u with answers := answered s .set 3 })
      ∧ (s.functionOfLine n = .crescendoSet → ¬ stageRefused → ∃ t, exec (.crescendoSet n) s = .next t
          ∧ AdditionsFormed s.crescendo
              { afterReads below u with
                memory := written u [{ slot := slot, content := setsContent increment, source := .stage }] } t)
      ∧ (s.functionOfLine n = .tutti → tuttiRefused → exec (.tutti n) s = .next { u with answers := answered s .set 3 })
      ∧ (s.functionOfLine n = .tutti → ¬ tuttiRefused → s.crescendo.tutti = false → exec (.tutti n) s = .next w)
      ∧ (s.functionOfLine n = .tutti → ¬ tuttiRefused → s.crescendo.tutti = true →
          ∃ t, exec (.tutti n) s = .next t ∧ AdditionsFormed s.crescendo w t)

/-- A hand-over of the encoder's pair in Joining and Awake (R81, R82, R87): one place forward around the cycle raises P up to 4095,
one place backward lowers it down to 0, and a change of both tracks is a phase error, the fourth of which holds the stage and
reports ENCODER. In Awake a change of P evaluates the stage. The index edge in Joining, Awake and Dormant brings P to 0, clears
the phase errors and the hold, reports ENCODER for a drift above 16, and in Awake evaluates the stage (R83). In the other states
the lines alone change (R81, R83, R128). Without encoder lines neither reaches the unit (R84). The commands set their lines
themselves (log entry 5), a track that does not change keeping its run count (R121; log entry 44); without encoder lines they
cannot arise (log entry 6). -/
def Obligations.TheShoeIsCounted : Prop :=
  (∀ (s : State) (x y : Nat) (a b : Bool), s.station = .joining ∨ s.station = .awake →
    s.lineOf .encoderA = some x → s.lineOf .encoderB = some y →
    let u := { s with
      scanner := { s.scanner with lines := (s.scanner.lines.modify x (lineTaken a)).modify y (lineTaken b) }
      crescendo := { s.crescendo with refA := a, refB := b } }
    let counted := fun p => { u with crescendo := { u.crescendo with count := p } }
    let evaluated := fun p t => (if s.station = .awake ∧ p ≠ s.crescendo.count then StageEvaluated (counted p) t else t = counted p)
    ∃ t, exec (.encoderHandover a b) s = .next t
      ∧ (a = s.crescendo.refA ∧ b = s.crescendo.refB → t = u)
      ∧ (a = !s.crescendo.refB ∧ b = s.crescendo.refA → evaluated (min 4095 (s.crescendo.count + 1)) t)
      ∧ (a = s.crescendo.refB ∧ b = !s.crescendo.refA → evaluated (s.crescendo.count - 1) t)
      ∧ (a = !s.crescendo.refA ∧ b = !s.crescendo.refB →
          t = if s.crescendo.held = true then u
            else if s.crescendo.phaseErrors + 1 < 4 then
              { u with crescendo := { u.crescendo with phaseErrors := s.crescendo.phaseErrors + 1 } }
            else reported .encoder { u with crescendo := { u.crescendo with phaseErrors := 4, held := true } }))
    ∧ ((∀ (s : State) (x : Nat), s.station = .joining ∨ s.station = .awake ∨ s.station = .dormant →
    s.lineOf .encoderIndex = some x →
    let u := { atLine s x true with crescendo := { s.crescendo with count := 0, phaseErrors := 0, held := false } }
    let v := if 16 < s.crescendo.count then reported .encoder u else u
    ∃ t, exec .indexEdge s = .next t ∧ (s.station = .awake → StageEvaluated v t) ∧ (s.station ≠ .awake → t = v))
    ∧ (∀ (s : State) (x : Nat), s.station = .restarting → s.lineOf .encoderIndex = some x →
        exec .indexEdge s = .next (atLine s x true))
    ∧ (∀ (s : State) (x y : Nat) (a b : Bool), s.station ≠ .joining → s.station ≠ .awake →
        s.lineOf .encoderA = some x → s.lineOf .encoderB = some y →
        exec (.encoderHandover a b) s = .next { s with scanner := { s.scanner with
          lines := (s.scanner.lines.modify x (lineTaken a)).modify y (lineTaken b) } })
    ∧ (∀ s : State, s.lineOf .encoderIndex = none → exec .indexEdge s = .next s)
    ∧ ∀ (s : State) (a b : Bool), s.lineOf .encoderA = none → exec (.encoderHandover a b) s = .next s)

/-- The calibration and the stage (R85, R86): y is x with the bow's correction, within 0 to 1000, 0 at a closed shoe, 1000 at an open
one, and never falls as the shoe opens; a rising candidate is taken at once, a falling one only behind the hysteresis, and the
stage never exceeds S. -/
def Obligations.CalibrationAndStage : Prop :=
  ∀ (c : Configuration) (p q stage : Nat), c.closed + 200 ≤ c.opened → -127 ≤ c.bow → c.bow ≤ 127 → p ≤ q →
    let x : Int := if p ≤ c.closed then 0 else if c.opened ≤ p then 1000 else (((p - c.closed) * 1000 / (c.opened - c.closed) : Nat) : Int)
    let y := calibrated c p
    let r := min c.layout.stages (y * (c.layout.stages + 1) / 1000)
    let rh := min c.layout.stages (min 1000 (y + c.hysteresis) * (c.layout.stages + 1) / 1000)
    (y : Int) = max 0 (min 1000 (x + (c.bow * x * (1000 - x)).tdiv 250000)) ∧ y ≤ 1000
      ∧ (p ≤ c.closed → y = 0) ∧ (c.opened ≤ p → y = 1000) ∧ y ≤ calibrated c q
      ∧ (r > stage → selectStage c y stage = r)
      ∧ (r ≤ stage → rh < stage → selectStage c y stage = rh)
      ∧ (r ≤ stage → stage ≤ rh → selectStage c y stage = stage)
      ∧ (stage ≤ c.layout.stages → selectStage c y stage ≤ c.layout.stages)

/-- The local additions hold a control exactly when a stage record of the program from stage 1 to the present stage names it, or the
tutti record does while tutti is on; the effective additions when the local ones do in Awake or a console peer in the union
announces it; indices beyond a division's controls never (R1, R88, R94, R97). The cumulative set of n stages holds what one of
them names, and the slots read for the local additions are those stage records and, while tutti is on, the tutti record (R88,
R94). -/
def Obligations.AdditionsAreUnions : Prop :=
  ∀ (s : State) (d i : Nat), d < 8 → i < 48 → s.config.controlsOf d ≤ 48 →
    let known := d < s.divisionCount ∧ i < s.config.controlsOf d
    let names := fun (n : Nat) => ∃ c, newest s.memory n = some c ∧ c.getLsbD (48 * d + i) = true
    let stageRecord := fun (program k : Nat) => s.bases.cresBase + program * s.config.layout.stages + k
    (∀ program n, (setAt (s.cumulative program n) d).getLsbD i = true ↔ known ∧ ∃ k, k < n ∧ names (stageRecord program k))
      ∧ (∀ n, n ∈ s.additionSlots ↔
          (∃ k, k < s.crescendo.stage ∧ n = stageRecord s.crescendo.program k) ∨ (s.crescendo.tutti = true ∧ n = 16383))
      ∧ ((setAt s.formedAdditions d).getLsbD i = true ↔ known
        ∧ ((∃ k, k < s.crescendo.stage ∧ names (stageRecord s.crescendo.program k))
          ∨ (s.crescendo.tutti = true ∧ names 16383)))
      ∧ ((setAt s.formedEffective d).getLsbD i = true ↔
          (s.station = .awake ∧ (setAt s.crescendo.localAdditions d).getLsbD i = true)
          ∨ ∃ p ∈ s.peers.reduceOption, p.kind = .combination ∧ p.presence ≠ .absent ∧ p.state = .awake ∧ known
              ∧ (setAt p.contribution.additions d).getLsbD i = true)

/-! ### Drawknob motion (R102 to R118) -/

/-- A stop-sense change acts by the record's state (R104, R112, R113): Driving, Settling and Unaligned records keep what they do, a
Queued or Stuck one becomes Aligned and leaves the queue, and an Aligned one is a hand motion, a local change of its division
after which it is still Aligned. In Dormant and Restarting the line alone changes (R128). -/
def Obligations.SenseChangesActByTheState : Prop :=
  ∀ (s : State) (n d i : Nat) (v : Bool) (r : MotionRecord), s.functionOfLine n = .stopSense d i → configured s → imageOk s →
    motionOk s → s.motion.find d i = some r → r.sensed ≠ v →
    let new : MotionRecord := match r.state with
      | .queued | .stuck => { r with sensed := v, state := .aligned, retry := 0 }
      | _ => { r with sensed := v }
    let m : Motion := { s.motion with
      records := s.motion.records.map fun q => if q.key = (d, i) then new else q
      queue := s.motion.queue.filter (· ≠ (d, i)) }
    (s.station = .joining ∨ s.station = .awake → r.state ≠ .aligned →
        exec (.stopSenseChange n v) s = .next { atLine s n v with motion := judged s m })
      ∧ (s.station = .awake → r.state = .aligned → ∃ t, exec (.stopSenseChange n v) s = .next t
          ∧ t = changedBy [(d, if v then s.drawn d ||| BitVec.ofNat 48 (2 ^ i) else s.drawn d &&& ~~~ BitVec.ofNat 48 (2 ^ i))]
              { atLine s n v with motion := judged s m }
          ∧ t.motion.find d i = some { r with sensed := v, target := v, retry := 0 })
      ∧ (s.station = .dormant ∨ s.station = .restarting → exec (.stopSenseChange n v) s = .next (atLine s n v))

/-- The end of a pulse releases the coil and lets waiting pulses start; a Driving record settles, one that became Unaligned stays so
(R109, R116). In Restarting the report that no coil is energized is held once the count is 0 (R118). The settle end judges a
Settling record: Aligned where sensed agrees with the target, queued again at the tail with its retry raised where it does not,
Stuck with STOP_STUCK reported at the third failure (R110, R111). A command for a control in another state changes nothing. The
last is log entry 4. -/
def Obligations.PulseAndSettleEnds : Prop :=
  ((∀ (s : State) (d i : Nat) (r : MotionRecord), configured s → motionOk s → s.motion.find d i = some r → r.coil.isSome = true →
    let new : MotionRecord := if r.state = .driving then { r with state := .settling, window := some s.config.settle, coil := none }
      else { r with window := none, coil := none }
    exec (.pulseEnd d i) s = .next { s with
      motion := judged s {
        records := s.motion.records.map fun q => if q.key = (d, i) then new else q
        queue := s.motion.queue
        energized := s.motion.energized - 1 }
      start := { s.start with
        noCoil := if s.station = .restarting ∧ s.motion.energized ≤ 1 then true else s.start.noCoil } })
    ∧ ∀ (s : State) (d i : Nat), (∀ r, s.motion.find d i = some r → r.coil = none) → exec (.pulseEnd d i) s = .next s)
    ∧ ((∀ (s : State) (d i : Nat) (r : MotionRecord), configured s → motionOk s → s.motion.find d i = some r → r.state = .settling →
    let moved := fun (new : MotionRecord) (queue : List (Nat × Nat)) =>
      { s with motion := judged s { s.motion with
          records := s.motion.records.map fun q => if q.key = (d, i) then new else q
          queue := queue } }
    (r.sensed = r.target →
        exec (.settleEnd d i) s = .next (moved { r with state := .aligned, retry := 0, window := none } s.motion.queue))
      ∧ (r.sensed ≠ r.target → r.retry < 2 →
        exec (.settleEnd d i) s =
          .next (moved { r with state := .queued, retry := r.retry + 1, window := none } (s.motion.queue ++ [(d, i)])))
      ∧ (r.sensed ≠ r.target → r.retry = 2 →
        exec (.settleEnd d i) s = .next (reported .stopStuck (moved { r with state := .stuck, window := none } s.motion.queue))))
    ∧ ∀ (s : State) (d i : Nat), (∀ r, s.motion.find d i = some r → r.state ≠ .settling) → exec (.settleEnd d i) s = .next s)

/-! ### Supply and faults (R156 to R163) -/

/-- The four supply commands judge both conditions with their hysteresis (R156), report each entry (R156, R158), and on a release let
pulses and writes begin (R114, R157); in Restarting an entry of Low2 discards the writes not yet begun (R61). Without power they
change nothing (log entry 6). That one measured voltage is compared with all four thresholds is log entry 9. -/
def Obligations.SupplyCommandsJudgeBothConditions : Prop :=
  ∀ (s : State) (mv : Nat) (c : Instr),
    (c = .low1Entry mv ∧ mv < 10500) ∨ (c = .low1Release mv ∧ 11000 < mv) ∨ (c = .low2Entry mv ∧ mv < 9000)
      ∨ (c = .low2Release mv ∧ 9500 < mv) →
    let low1 := if mv < 10500 then true else if 11000 < mv then false else s.supply.low1
    let low2 := if mv < 9000 then true else if 9500 < mv then false else s.supply.low2
    let e := if mv < 10500 ∧ s.supply.low1 = false then reported .supplyLow1 s else s
    let f := if mv < 9000 ∧ s.supply.low2 = false then reported .supplyLow2 e else e
    let entered := mv < 9000 ∧ s.supply.low2 = false
    let released := 9500 < mv ∧ s.supply.low2 = true
    let discarded := if entered ∧ s.station = .restarting then { s.memory with queue := s.memory.queue.take s.memory.begun } else s.memory
    let first := if released then judged { s with supply := { low1 := low1 || s.supply.low1, low2 := false } } s.motion else s.motion
    (s.station ≠ .off → exec c s = .next { f with
        supply := { low1 := low1, low2 := low2 }
        memory := if released then begun false s.memory else discarded
        motion := if 11000 < mv ∧ s.supply.low1 = true then judged { s with supply := { low1 := false, low2 := low2 } } first else first
        start := { s.start with
          drained := if entered ∧ s.station = .restarting ∧ discarded.queue = [] ∧ discarded.flight = none then true
            else s.start.drained } })
      ∧ (s.station = .off → exec c s = .next s)

/-- A fault acknowledge in Awake queues every Stuck record again with retry 0, and in Awake and Joining clears every latched kind
whose cause does not persist after that and latches nothing; elsewhere it only qualifies its line (R115, R158, R162). -/
def Obligations.AcknowledgeClearsWhatDoesNotPersist : Prop :=
  ∀ (s : State) (n : Nat), s.functionOfLine n = .faultAcknowledge → motionOk s →
    let stuck := s.motion.records.filter fun r => r.state == .stuck
    let m : Motion := if s.station = .awake then
        judged s { s.motion with
          records := s.motion.records.map fun r => if r.state = .stuck then { r with state := .queued, retry := 0 } else r
          queue := s.motion.queue ++ stuck.map MotionRecord.key }
      else s.motion
    (s.station = .awake ∨ s.station = .joining → ∃ t, exec (.faultAcknowledge n) s = .next t
        ∧ t = { atLine s n true with motion := m, faults := t.faults }
        ∧ (∀ k, t.latched k = true ↔ s.latched k = true ∧ persists t k)
        ∧ (s.station = .awake → t.latched .stopStuck = false))
      ∧ (s.station ≠ .awake → s.station ≠ .joining → exec (.faultAcknowledge n) s = .next (atLine s n true))

/-! ### Combination memory (R46 to R66) -/

/-- The end of a write's 4 ms (R47, R59): the slot holds what the readback finds and every other byte what it held. A slot as written
settles the write as done; a first disagreement begins the rewrite; a second reports MEMORY_WRITE and settles it as failed. A
settled queue entry leaves the queue, a refresh advances the retention pointer, a clear counts one slot more. The readback's
content is the command's operand (log entry 8); without a write in flight the command changes nothing (log entry 4). -/
def Obligations.ReadbackSettlesTheWrite : Prop :=
  (∀ (s : State) (found : Option SlotImage) (f : Flight), s.memory.flight = some f → f.slot < 16384 →
    Memory.wf s.memory.cells = true →
    let x := found.getD (slotOf f.content)
    let a := if SlotImage.passes x = true then s else reported .memoryCheck s
    let b := if x ≠ slotOf f.content ∧ f.rewrite = true then reported .memoryWrite a else a
    ∃ t, exec (.writeReadback found) s = .next t
      ∧ readSlotImage t.memory.cells f.slot = x
      ∧ (∀ n, n < 64 * f.slot ∨ 64 * f.slot + 64 ≤ n → Memory.read t.memory.cells n = Memory.read s.memory.cells n)
      ∧ (x ≠ slotOf f.content → f.rewrite = false →
          t = { a with memory := { s.memory with cells := t.memory.cells, flight := some { f with rewrite := true, ms := 0 } } })
      ∧ (x = slotOf f.content ∨ f.rewrite = true →
          let settled : MemoryController := match f.kind with
            | .queue => { s.memory with
                queue := s.memory.queue.tail, clear := s.memory.clear.map fun c => { c with before := c.before - 1 } }
            | .refresh => { s.memory with retention := if s.memory.retention + 1 = 16384 then 0 else s.memory.retention + 1 }
            | .clear => { s.memory with
                clearSettled := s.memory.clearSettled + 1
                clear := s.memory.clear.bind fun c => if c.next + 1 < s.memory.clearTotal then some { c with next := c.next + 1 } else none }
          s.memory.retention < 16384 →
          t = { b with
            memory := { begun s.supply.low2 { settled with flight := none } with cells := t.memory.cells }
            start := { s.start with
              drained := if s.station = .restarting ∧ t.memory.queue = [] ∧ t.memory.flight = none then true else s.start.drained }
            link := match f.kind, s.memory.queue with
              | .queue, { slot, content := _, source := .service request } :: _ =>
                (replied b request slot (if x = slotOf f.content then .done else .failed) none).link
              | _, _ => b.link }))
    ∧ ∀ (s : State) (found : Option SlotImage), s.memory.flight = none → exec (.writeReadback found) s = .next s

/-- The idle timer, idle-ready in Joining, Awake and Dormant once it has run 2000 ms (R62), and the refresh write of the slot at the
retention pointer, with its own content, or passed over with MEMORY_CHECK reported where it fails its check (R63). Where the timer
or the conditions do not stand the commands change nothing (log entry 4). -/
def Obligations.RetentionRefresh : Prop :=
  (∀ s : State, s.station = .joining ∨ s.station = .awake ∨ s.station = .dormant →
      exec .idleReady s = .next { s with memory := { s.memory with idle := max s.memory.idle 2000 } })
    ∧ (∀ s : State, ¬(s.station = .joining ∨ s.station = .awake ∨ s.station = .dormant) → exec .idleReady s = .next s)
    ∧ (∀ s : State,
      let mayBegin := (s.station = .joining ∨ s.station = .awake ∨ s.station = .dormant) ∧ 2000 ≤ s.memory.idle
        ∧ s.memory.queue = [] ∧ s.memory.flight = none ∧ s.supply.low2 = false ∧ s.memory.clear = none
      (¬ mayBegin → exec .retentionRefreshWrite s = .next s)
      ∧ (mayBegin → s.memory.retention < 16384 →
          exec .retentionRefreshWrite s = .next (match arrayContent s.memory.cells s.memory.retention with
            | some c => { s with memory := { s.memory with
                flight := some { slot := s.memory.retention, content := c, kind := .refresh, rewrite := false, ms := 0 } } }
            | none => { reported .memoryCheck s with memory := { s.memory with
                retention := if s.memory.retention = 16383 then 0 else s.memory.retention + 1 } })))

/-- The addresses of the records, and the partition of a layout that fits (R49 to R53): the regions lie in order within the array, and
each slot of a piston, a sequence and a stage lies in its region. -/
def Obligations.SlotAddressesKeepToTheirRegions : Prop :=
  ∀ (l : Layout), layoutOk l = true → l.fits = true →
    let p := partitionOf l
    p.cresBase = 16384 - (4 * l.stages + 1) ∧ p.seqBase + l.levels * (l.steps / 16) = p.cresBase ∧ p.levelBase = 32
      ∧ p.levelTop = 32 + l.levels * (l.generals + l.divisionals.sum) ∧ p.levelTop ≤ p.seqBase
      ∧ (∀ level g, 1 ≤ level → level ≤ l.levels → 1 ≤ g → g ≤ l.generals →
          p.levelBase ≤ pistonSlot p l level (.general g) ∧ pistonSlot p l level (.general g) < p.levelTop)
      ∧ (∀ level d n k, 1 ≤ level → level ≤ l.levels → l.divisionals[d]? = some k → 1 ≤ n → n ≤ k →
          p.levelBase ≤ pistonSlot p l level (.divisional d n) ∧ pistonSlot p l level (.divisional d n) < p.levelTop)
      ∧ (∀ level j, 1 ≤ level → level ≤ l.levels → j < l.steps / 16 →
          p.seqBase ≤ sequenceSlot p l level j ∧ sequenceSlot p l level j < p.cresBase)
      ∧ (∀ program k, program ≤ 3 → 1 ≤ k → k ≤ l.stages →
          p.cresBase ≤ stageSlot p l program k ∧ stageSlot p l program k < 16383)
      ∧ p.cresBase + 4 * l.stages = 16383
      ∧ (∀ level g, pistonSlot p l level (.general g) = 32 + (level - 1) * (l.generals + l.divisionals.sum) + (g - 1))
      ∧ (∀ level d n, pistonSlot p l level (.divisional d n) =
          32 + (level - 1) * (l.generals + l.divisionals.sum) + l.generals + (l.divisionals.take d).sum + (n - 1))
      ∧ (∀ level j, sequenceSlot p l level j = 16384 - (4 * l.stages + 1) - l.levels * (l.steps / 16) + (level - 1) * (l.steps / 16) + j)
      ∧ (∀ program k, stageSlot p l program k = 16384 - (4 * l.stages + 1) + program * l.stages + (k - 1))

/-! ### Heartbeat and peers (R146 to R152) -/

/-- Every 250 ms in Joining, Awake, Dormant, Unconfigured and Service a heartbeat is handed, and in the first three the refresh of the
division at the refresh pointer, which advances, and at each eighth period a crescendo repeat (R13, R14, R96, R146). The order of
the three is the model's choice (log entry 13). In any other state the period does not run, and the command changes nothing (log
entry 4). -/
def Obligations.HeartbeatPeriodHandsTheFrames : Prop :=
  (∀ (s : State) (r : ReportedState),
    (s.station, r) ∈ [(Station.joining, ReportedState.joining), (.awake, .awake), (.dormant, .dormant),
      (.unconfigured, .unconfigured), (.service, .service)] →
    let h := waitingWith s.link.routine (heartbeatOf s r)
    let refresh := waitingWith h (.registrationRefresh s.refreshPointer (s.division s.refreshPointer).stamp (s.division s.refreshPointer).drawn)
    exec .heartbeatPeriod s = .next (
      if s.station = .unconfigured ∨ s.station = .service then
        { s with start := heartbeatHanded s.start, link := { s.link with routine := h } }
      else { s with
        start := heartbeatHanded s.start
        refreshPointer := if s.refreshPointer + 1 < s.divisionCount then s.refreshPointer + 1 else 0
        crescendo := { s.crescendo with repeatCount := if s.crescendo.repeatCount + 1 < 8 then s.crescendo.repeatCount + 1 else 0 }
        link := { s.link with
          routine := if s.crescendo.repeatCount + 1 < 8 then refresh
            else waitingWith refresh (.crescendoRepeat (announcement s s.crescendo.localAdditions)) } }))
    ∧ ∀ s : State, s.station = .off ∨ s.station = .start ∨ s.station = .restarting → exec .heartbeatPeriod s = .next s

/-- A record whose age reaches 750 ms becomes Silent and nothing else changes; one that is Silent at 2000 ms becomes Absent, its alert
flag and runs cleared, and a console peer leaves the union with PEER_LOST reported (R149). A free record and a table that is not
in play do not age. A command for an age that cannot have been reached changes nothing, and one that comes early brings the age to
its limit (log entry 4). -/
def Obligations.AgesSilenceAndLosePeers : Prop :=
  (∀ (s : State) (n : Nat) (p : Peer), s.station = .joining ∨ s.station = .awake ∨ s.station = .dormant →
    s.peers[n]? = some (some p) →
    (p.presence = .present → exec (.peerSilent n) s =
        .next { s with peers := s.peers.set n (some { p with presence := .silent, age := max p.age 750 }) })
      ∧ (p.presence ≠ .present → exec (.peerSilent n) s = .next s)
      ∧ (p.presence = .silent → ∃ t, exec (.peerAbsent n) s = .next t
          ∧ let gone : Peer := { p with presence := .absent, age := max p.age 2000, alert := false, gapRun := 0, cleanRun := 0 }
            let u := { s with peers := s.peers.set n (some gone) }
            t = { (if p.kind = .combination then reported .peerLost u else u) with
                crescendo := { s.crescendo with effective := t.formedEffective } })
      ∧ (p.presence ≠ .silent → exec (.peerAbsent n) s = .next s))
    ∧ ∀ (s : State) (n : Nat), ¬(s.station = .joining ∨ s.station = .awake ∨ s.station = .dormant) ∨ s.peers.getD n none = none →
      exec (.peerSilent n) s = .next s ∧ exec (.peerAbsent n) s = .next s

/-- A heartbeat from a sender without a record takes the lowest free record, or with none free the Absent one of the greatest age, and
among equals the lowest station number. It is answered with a refresh burst and a crescendo repeat, and nothing else changes but
the effective additions. With every record Present or Silent PEER_TABLE_FULL is reported (R15, R96, R97, R148, R150). That the
burst comes before the repeat is log entry 13, that of two records alike in both the lower place is taken log entry 21, that the
effective additions are formed anew at the end log entry 22, and what a frame command leaves of the line view log entry 35. -/
def Obligations.NewSendersTakeARecord : Prop :=
  ∀ (s : State) (o : Nat) (h : HeartbeatContent), heard s o (.heartbeat h) →
    s.station = .joining ∨ s.station = .awake ∨ s.station = .dormant →
    let kind : PeerKind := if h.kind = 1 then .combination else if h.kind = 2 then .chamber else if h.kind = 3 then .serviceTool else .other
    let new : Peer := {
      station := o, kind := kind, state := h.state, presence := .present, age := 0, sequence := h.sequence, gapRun := 0,
      cleanRun := 0, alert := false, cause := h.cause, contribution := { stage := 0, tutti := false, additions := [] } }
    let u := frameTaken s
    let taken := fun (n : Nat) (t : State) =>
      t = { u with
        peers := s.peers.set n (some new)
        crescendo := { s.crescendo with effective := t.formedEffective }
        link := { u.link with routine := arrivalAnswered u } }
    (∀ p ∈ s.peers.reduceOption, ¬(p.station = o ∧ p.kind = kind)) →
    (∀ n, s.peers[n]? = some none → (∀ k, k < n → s.peers[k]? ≠ some none) → ∃ t, exec (.heartbeat o h) s = .next t ∧ taken n t)
      ∧ (∀ n p, (∀ q ∈ s.peers, q ≠ none) → s.peers[n]? = some (some p) → p.presence = .absent →
          (∀ k q, s.peers[k]? = some (some q) → q.presence = .absent →
            q.age < p.age ∨ (q.age = p.age ∧ (p.station < q.station ∨ (p.station = q.station ∧ n ≤ k)))) →
          ∃ t, exec (.heartbeat o h) s = .next t ∧ taken n t)
      ∧ ((∀ p ∈ s.peers, ∃ q, p = some q ∧ q.presence ≠ .absent) →
        exec (.heartbeat o h) s = .next (reported .peerTableFull u))

/-- A heartbeat of a recorded sender (R149 to R151): a start flag or a changed cause empties the contribution and clears both runs;
otherwise a record not Absent is judged for sequence, three gaps in a run setting the alert flag and reporting LINK_QUALITY, eight
in sequence clearing it. The record takes the heartbeat's values; a peer start or an arrival is answered with a refresh burst and
a crescendo repeat. That the burst comes before the repeat, that the effective additions are formed anew at the end, and what a
frame command leaves of the line view are log entries 13, 22 and 35. -/
def Obligations.HeartbeatsAreJudged : Prop :=
  ∀ (s : State) (o n : Nat) (h : HeartbeatContent) (p : Peer), heard s o (.heartbeat h) → peersOk s →
    s.station = .joining ∨ s.station = .awake ∨ s.station = .dormant →
    s.peers[n]? = some (some p) → p.station = o →
    p.kind = (if h.kind = 1 then .combination else if h.kind = 2 then .chamber else if h.kind = 3 then .serviceTool else .other) →
    let start := h.startFlag = true ∨ h.cause ≠ p.cause
    let gap := ¬ start ∧ p.presence ≠ .absent ∧ h.sequence ≠ (p.sequence + 1) % 16
    let clean := ¬ start ∧ p.presence ≠ .absent ∧ h.sequence = (p.sequence + 1) % 16
    let gapRun := if start ∨ clean then 0 else if gap then min 3 (p.gapRun + 1) else p.gapRun
    let cleared := clean ∧ p.alert = true ∧ 8 ≤ p.cleanRun + 1
    let alert := if gap ∧ p.gapRun + 1 ≥ 3 then true else if cleared then false else p.alert
    let cleanRun := if start ∨ gap ∨ cleared then 0 else if clean ∧ p.alert = true then p.cleanRun + 1 else p.cleanRun
    let q : Peer := { p with
      state := h.state, presence := .present, age := 0, sequence := h.sequence, gapRun := gapRun, cleanRun := cleanRun,
      alert := alert, cause := h.cause,
      contribution := if start then { stage := 0, tutti := false, additions := [] } else p.contribution }
    let u := { frameTaken s with peers := s.peers.set n (some q) }
    let v := if alert = true ∧ p.alert = false then reported .linkQuality u else u
    ∃ t, exec (.heartbeat o h) s = .next t
      ∧ t = { v with
          link := if start ∨ p.presence ≠ .present then { v.link with routine := arrivalAnswered v } else v.link
          crescendo := { s.crescendo with effective := t.formedEffective } }

/-! ### Received frames (R10, R134, R143, R144, R152, R169) -/

/-- A registration frame is adopted, restricted to the defined indices, with its stamp, where its division is known and its stamp is
newer than the held one; nothing is sent, and the targets of the division follow by R106. It is ignored otherwise, and outside
Joining, Awake and Dormant (R10 to R12, R16, R18). Its end leaves the line view as any frame's does (R134; log entry 35). -/
def Obligations.RegistrationFramesAreMerged : Prop :=
  ∀ (s : State) (o d : Nat) (a : Stamp) (x : StopSet) (f : Frame),
    f = .registrationChange d a x ∨ f = .registrationRefresh d a x → heard s o f →
    let inPlay := s.station = .joining ∨ s.station = .awake ∨ s.station = .dormant
    let set := x &&& definedIndices (s.config.controlsOf d)
    let u := frameTaken s
    (∀ v, inPlay → s.image[d]? = some v → newer a v.stamp = true →
        exec (frameCommand o f) s = .next { u with
          image := s.image.set d { drawn := set, stamp := a }
          motion := motionAfter u fun r => if r.d = d then retargeted (set.getLsbD r.i) r else r })
      ∧ (∀ v, s.image[d]? = some v → newer a v.stamp = false → exec (frameCommand o f) s = .next u)
      ∧ (s.image.length ≤ d → exec (frameCommand o f) s = .next u)
      ∧ (¬ inPlay → exec (frameCommand o f) s = .next u)

/-- A crescendo frame or repeat becomes the contribution of its sender's console record, in any presence, and the effective additions
follow; it is dropped where no such record is, and outside Joining, Awake and Dormant (R97, R147, R152). Its end leaves the line
view as any frame's does (R134; log entry 35). -/
def Obligations.CrescendoFramesBecomeContributions : Prop :=
  ∀ (s : State) (o : Nat) (content : CrescendoContent) (f : Frame),
    f = .crescendo content ∨ f = .crescendoRepeat content → heard s o f →
    let inPlay := s.station = .joining ∨ s.station = .awake ∨ s.station = .dormant
    let u := frameTaken s
    (∀ n p, peersOk s → inPlay → s.peers[n]? = some (some p) → p.station = o → p.kind = .combination →
        ∃ t, exec (frameCommand o f) s = .next t
          ∧ t = { u with
              peers := s.peers.set n (some { p with contribution :=
                { stage := content.stage, tutti := content.tutti, additions := content.additions } })
              crescendo := { s.crescendo with effective := t.formedEffective } })
      ∧ ((∀ p ∈ s.peers.reduceOption, ¬(p.station = o ∧ p.kind = .combination)) → exec (frameCommand o f) s = .next u)
      ∧ (¬ inPlay → exec (frameCommand o f) s = .next u)

/-- The end of a frame at the station (R134, R143 to R145, R151). It is received only in a state that receives and on a line that is
idle, so that the frame begins now, or that carries a frame whose beginning the station took up; in any other case the commands of
frames, NUMBER_CLASH and FRAME_DISCARDED change nothing: after a discard or a frame's end the receiver waits for the next idle.
FAULT_NOTICE_RECEIVED and SERVICE_REPLY_RECEIVED of another station reach no block: only the line view moves. So does every frame
that R134 discards, whatever its kind: FRAME_DISCARDED with a broken framing, an origin or kind that is none, a length that Table
12-2 does not accept, a check that differs or a field out of the values of Table 12-3, and a frame command with such a field; a
frame cut short by an idle leaves the line idle. FRAME_DISCARDED with any other bytes is the frame they spell. A whole frame of
any of the twelve kinds that bears the station's own number, and NUMBER_CLASH, report LINK_CLASH and set listen-only. The model's
choices: a frame command stands for a frame whole and its fields are judged by R134 (log entry 10), and on an idle line it brings
the frame's beginning with it (log entry 35); which values of a target, a request byte, a reply's length and unnamed bits are good
is log entry 11. -/
def Obligations.FramesThatReachNoBlock : Prop :=
  (∀ (s : State) (o : Nat) (f : Frame) (framing : Option FramingFault) (bytes : List Byte), ¬ listening s →
      exec (frameCommand o f) s = .next s ∧ exec .numberClash s = .next s ∧ exec (.frameDiscarded framing bytes) s = .next s)
    ∧ (∀ (s : State) (o : Nat) (k : FaultKind), heard s o (.faultNotice k) →
        exec (.faultNoticeReceived o k) s = .next (frameTaken s))
    ∧ (∀ (s : State) (o q n : Nat) (r : ReplyResult) (content : Option Content), heard s o (.serviceReply q n r content) →
        exec (.serviceReplyReceived o q n r content) s = .next (frameTaken s))
    ∧ (∀ (s : State) (o : Nat) (f : Frame), listening s → acceptable o f = false →
        exec (frameCommand o f) s = .next (frameTaken s))
    ∧ (∀ (s : State) (framing : Option FramingFault) (bytes : List Byte), listening s → discarded framing bytes →
        exec (.frameDiscarded framing bytes) s =
          .next (if framing = some .idleTooEarly then lineIdled (frameTaken s) else frameTaken s))
    ∧ (∀ (s : State) (framing : Option FramingFault) (bytes : List Byte), ¬ discarded framing bytes →
        ∃ f, acceptable (byteAt bytes 0) f = true ∧ laidOut (byteAt bytes 1) (payloadOf bytes) f
          ∧ exec (.frameDiscarded framing bytes) s = exec (frameCommand (byteAt bytes 0) f) s)
    ∧ ∀ s : State, listening s →
        let u := frameTaken s
        let t := reported .linkClash { u with link := { u.link with listenOnly := true } }
        exec .numberClash s = .next t
          ∧ ∀ f, acceptable s.link.number f = true → exec (frameCommand s.link.number f) s = .next t

/-- A frame of any kind a station can send is sent as origin, kind byte, length byte, payload and check, laid out by Tables 12-1 to
12-3; its bytes pass R134, and judged they give its origin and the same frame (R134, R171 to R173). The check register starts at
all ones and takes the bits of each byte highest-order first (R172). On the line each byte of the frame being sent takes ten bit
times: a driven start bit, the data bits lowest-order first, a released stop bit (R133). Which values are good is log entry 11
where Table 12-3 leaves it open. -/
def Obligations.FramesReadBackAsSent : Prop :=
  (∀ (origin : Nat) (f : Frame), acceptable origin f = true →
    let bytes := frameBytes origin f
    byteAt bytes 0 = origin ∧ laidOut (byteAt bytes 1) (payloadOf bytes) f ∧ ¬ discarded none bytes
      ∧ judgeFrame none bytes = some (origin, f))
    ∧ (crc [] = 0xFFFF#16 ∧ ∀ (l : List Byte) (b : Byte), crc (l ++ [b]) =
        (List.range 8).foldl
          (fun (r : BitVec 16) (k : Nat) => if r.getLsbD 15 = b.getLsbD (7 - k) then r <<< 1 else (r <<< 1) ^^^ 0x1021#16) (crc l))
    ∧ (∀ s : State, s.link.outgoing = none → s.lineBits = [])
    ∧ ∀ (s : State) (f : Frame), s.link.outgoing = some f →
        let bytes := frameBytes s.link.number f
        s.lineBits.length = 10 * bytes.length
          ∧ ∀ k b, bytes[k]? = some b →
              s.lineBits[10 * k]? = some false ∧ s.lineBits[10 * k + 9]? = some true
                ∧ ∀ j, j < 8 → s.lineBits[10 * k + 1 + j]? = some (b.getLsbD j)

/-- A Configuration read for this station is answered with the slot's newest content, with the mark of a failed check, or as out of
range, in every state but Start; in Restarting the reply is dropped (R55, R66, R145, R169, R173). A service write in Service is
taken where its slot is in range and the queue has an entry to give, and answered at once where not; in any other state it is
refused (R57, R66, R169). A service request for another station is handed to no block (R144). The model's choices: the notice of a
failed check is handed before the reply (log entry 41), a request out of range is answered "not in Service" outside Service (log
entry 20), a write to a slot with an entry not yet begun takes its place even ahead of a clear that waits (log entry 37), and the
line view follows log entry 35. -/
def Obligations.ServiceReadsAndWrites : Prop :=
  ((∀ (s : State) (o n : Nat), heard s o (.configurationRead s.link.number n) →
    let u := frameTaken s
    exec (.configurationRead o s.link.number n) s = .next (
      if 31 < n then replied u 8 n .outOfRange none
      else match newest s.memory n with
        | some c => replied u 8 n .content (some c)
        | none => replied (reported .memoryCheck u) 8 n .failedCheck none))
    ∧ ∀ (s : State) (o target n : Nat) (x : Content) (f : Frame),
      f ∈ [Frame.configurationRead target n, .configurationWrite target n x, .slotWrite target n x, .memoryClear target] →
      heard s o f → target ≠ s.link.number → exec (frameCommand o f) s = .next (frameTaken s))
    ∧ (∀ (s : State) (o n request limit : Nat) (x : Content) (f : Frame), heard s o f →
    (f = .configurationWrite s.link.number n x ∧ request = 9 ∧ limit = 31)
      ∨ (f = .slotWrite s.link.number n x ∧ request = 10 ∧ limit = 16383) →
    let u := frameTaken s
    (s.station ≠ .service → exec (frameCommand o f) s = .next (replied u request n .notInService none))
      ∧ (s.station = .service → limit < n → exec (frameCommand o f) s = .next (replied u request n .outOfRange none))
      ∧ (s.station = .service → n ≤ limit → ¬ roomFor s [n] →
          exec (frameCommand o f) s = .next (replied u request n .queueFull none))
      ∧ (s.station = .service → n ≤ limit → roomFor s [n] → exec (frameCommand o f) s = .next { u with
          memory := written s [{ slot := n, content := x, source := .service request }] }))

/-- A Memory clear in Service is taken where none runs or waits, slots 1, 30 and 31 pass their check and the layout they hold is in
range and fits: it waits for the entries before it and runs at once where there are none. It is refused otherwise, and in any
other state than Service (R64, R65, R169). That the scope byte stands as stored, that several failing slots latch once, and what a
frame command leaves of the line view are log entries 23, 26 and 35. -/
def Obligations.MemoryClearIsTakenOrRefused : Prop :=
  ∀ (s : State) (o : Nat), heard s o (.memoryClear s.link.number) →
    let u := frameTaken s
    let v := if s.memory.clear = none then afterReads [1, 30, 31] u else u
    (s.station ≠ .service → exec (.memoryClear o s.link.number) s = .next (replied u 11 0 .notInService none))
      ∧ (∀ c1 c30 c31, s.station = .service → s.memory.clear = none → newest s.memory 1 = some c1 →
          newest s.memory 30 = some c30 → newest s.memory 31 = some c31 →
          layoutOk (layoutOf c1) = true → (layoutOf c1).fits = true →
          let l := layoutOf c1
          exec (.memoryClear o s.link.number) s = .next (replied { u with
            memory := begun s.supply.low2 { s.memory with
              clear := some { layout := l, partition := partitionOf l, scope := c30.extractLsb' 0 8, before := s.memory.queue.length, next := 0 }
              clearSettled := 0
              clearTotal := 2 + l.levels * l.size + l.levels * (l.steps / 16) + (4 * l.stages + 1) } } 11 0 .taken none))
      ∧ (s.station = .service →
          (s.memory.clear ≠ none ∨ newest s.memory 1 = none ∨ newest s.memory 30 = none ∨ newest s.memory 31 = none
            ∨ ∃ c1, newest s.memory 1 = some c1 ∧ ¬(layoutOk (layoutOf c1) = true ∧ (layoutOf c1).fits = true)) →
          exec (.memoryClear o s.link.number) s = .next (replied v 11 0 .refused none))

/-! ### The line (R139 to R143) -/

/-- The line's idle and busy, and the end of a frame sent whole or aborted (R133, R134, R140 to R142): an idle line begins slot 0 and
ends what was being received; a busy one clears the yield flag, and its frame is received; a frame sent whole sets the flag; an
aborted one clears it and returns to the head of its queue unless a later frame of its key waits there, and the station goes on
receiving the frame that made it abort. With the line idle and listen-only off, a station with a frame begins at its slot (R139),
or at the next once its own has passed, with the head of the urgent queue, else of the routine one (R140, R141); before its slot,
with nothing to send or in listen-only, it counts the slot and waits. In Start and without power the line is not seen (R136,
R145). What the commands do where they cannot arise, the operand of SEND_BEGIN and the counts the line view keeps are the model's
choice (log entries 6, 12, 29). -/
def Obligations.LineCommandsMoveTheLink : Prop :=
  (∀ s : State, s.station ≠ .off → s.station ≠ .start →
    (s.link.idle = false → s.link.outgoing = none →
        exec .lineIdle s = .next (lineIdled s))
      ∧ (s.link.idle = true →
        exec .lineBusy s = .next { s with link := { s.link with
          idle := false, receiving := true, released := 0, slotsBegun := none, yield := false } })
      ∧ (∀ f, s.link.outgoing = some f →
        exec .sendComplete s = .next { s with link := { s.link with outgoing := none, yield := true } }
        ∧ (isUrgent f = true → exec .sendAbort s = .next { s with link := { s.link with
            urgent := if (s.link.urgent.any fun g => frameKey g == frameKey f) = true then s.link.urgent else f :: s.link.urgent
            outgoing := none, receiving := true, yield := false } })
        ∧ (isUrgent f = false → exec .sendAbort s = .next { s with link := { s.link with
            routine := if (s.link.routine.any fun g => frameKey g == frameKey f) = true then s.link.routine else f :: s.link.routine
            outgoing := none, receiving := true, yield := false } }))
      ∧ (s.link.idle = true → exec .lineIdle s = .next s)
      ∧ (s.link.idle = false → exec .lineBusy s = .next s)
      ∧ (s.link.outgoing = none → exec .sendComplete s = .next s ∧ exec .sendAbort s = .next s))
    ∧ (∀ (s : State) (k : Nat), s.station ≠ .off → s.station ≠ .start → s.link.idle = true → s.link.outgoing = none →
    let slot := (if s.link.urgent ≠ [] then s.link.number - 1 else 15 + (s.link.number - 1)) + if s.link.yield then 30 else 0
    let begins := fun l : Link => { s with link := { l with idle := false, receiving := false, released := 0, slotsBegun := none } }
    let waits := { s with link := { s.link with slotsBegun := some k } }
    (∀ f rest, s.link.urgent = f :: rest → s.link.listenOnly = false → slot ≤ k →
        exec (.sendBegin k) s = .next (begins { s.link with urgent := rest, outgoing := some f }))
      ∧ (∀ f rest, s.link.urgent = [] → s.link.routine = f :: rest → s.link.listenOnly = false → slot ≤ k →
        exec (.sendBegin k) s = .next (begins { s.link with routine := rest, outgoing := some f }))
      ∧ (k < slot ∨ s.link.listenOnly = true ∨ (s.link.urgent = [] ∧ s.link.routine = []) → exec (.sendBegin k) s = .next waits))
    ∧ (∀ (s : State) (k : Nat),
    (s.station = .off ∨ s.station = .start → exec .lineIdle s = .next s ∧ exec .lineBusy s = .next s ∧ exec (.sendBegin k) s = .next s)
      ∧ (s.link.outgoing ≠ none → exec .lineIdle s = .next s)
      ∧ (s.link.idle = false → exec (.sendBegin k) s = .next s))
end

