-- ==== Sys2Proof/Laws/State.lean ====
section
/-!
SUPPORT. What each named update of State does to each field: one lemma per field per update.
-/

namespace Sys2Proof.Machine

variable (s : State)

@[simp] theorem State.setPending_pending (v : List Instr) : (s.setPending v).pending = v := rfl
@[simp] theorem State.setPending_station (v : List Instr) : (s.setPending v).station = s.station := rfl
@[simp] theorem State.setPending_cfg (v : List Instr) : (s.setPending v).cfg = s.cfg := rfl
@[simp] theorem State.setPending_start (v : List Instr) : (s.setPending v).start = s.start := rfl
@[simp] theorem State.setPending_scanner (v : List Instr) : (s.setPending v).scanner = s.scanner := rfl
@[simp] theorem State.setPending_image (v : List Instr) : (s.setPending v).image = s.image := rfl
@[simp] theorem State.setPending_refreshPointer (v : List Instr) : (s.setPending v).refreshPointer = s.refreshPointer := rfl
@[simp] theorem State.setPending_recallUnit (v : List Instr) : (s.setPending v).recallUnit = s.recallUnit := rfl
@[simp] theorem State.setPending_answers (v : List Instr) : (s.setPending v).answers = s.answers := rfl
@[simp] theorem State.setPending_sequencer (v : List Instr) : (s.setPending v).sequencer = s.sequencer := rfl
@[simp] theorem State.setPending_memory (v : List Instr) : (s.setPending v).memory = s.memory := rfl
@[simp] theorem State.setPending_crescendo (v : List Instr) : (s.setPending v).crescendo = s.crescendo := rfl
@[simp] theorem State.setPending_motion (v : List Instr) : (s.setPending v).motion = s.motion := rfl
@[simp] theorem State.setPending_link (v : List Instr) : (s.setPending v).link = s.link := rfl
@[simp] theorem State.setPending_peers (v : List Instr) : (s.setPending v).peers = s.peers := rfl
@[simp] theorem State.setPending_supply (v : List Instr) : (s.setPending v).supply = s.supply := rfl
@[simp] theorem State.setPending_faults (v : List Instr) : (s.setPending v).faults = s.faults := rfl
@[simp] theorem State.setPending_held (v : List Instr) : (s.setPending v).held = s.held := rfl
@[simp] theorem State.setPending_config (v : List Instr) : (s.setPending v).config = s.config := rfl
@[simp] theorem State.setPending_bases (v : List Instr) : (s.setPending v).bases = s.bases := rfl

@[simp] theorem State.setStation_pending (v : Station) : (s.setStation v).pending = s.pending := rfl
@[simp] theorem State.setStation_station (v : Station) : (s.setStation v).station = v := rfl
@[simp] theorem State.setStation_cfg (v : Station) : (s.setStation v).cfg = s.cfg := rfl
@[simp] theorem State.setStation_start (v : Station) : (s.setStation v).start = s.start := rfl
@[simp] theorem State.setStation_scanner (v : Station) : (s.setStation v).scanner = s.scanner := rfl
@[simp] theorem State.setStation_image (v : Station) : (s.setStation v).image = s.image := rfl
@[simp] theorem State.setStation_refreshPointer (v : Station) : (s.setStation v).refreshPointer = s.refreshPointer := rfl
@[simp] theorem State.setStation_recallUnit (v : Station) : (s.setStation v).recallUnit = s.recallUnit := rfl
@[simp] theorem State.setStation_answers (v : Station) : (s.setStation v).answers = s.answers := rfl
@[simp] theorem State.setStation_sequencer (v : Station) : (s.setStation v).sequencer = s.sequencer := rfl
@[simp] theorem State.setStation_memory (v : Station) : (s.setStation v).memory = s.memory := rfl
@[simp] theorem State.setStation_crescendo (v : Station) : (s.setStation v).crescendo = s.crescendo := rfl
@[simp] theorem State.setStation_motion (v : Station) : (s.setStation v).motion = s.motion := rfl
@[simp] theorem State.setStation_link (v : Station) : (s.setStation v).link = s.link := rfl
@[simp] theorem State.setStation_peers (v : Station) : (s.setStation v).peers = s.peers := rfl
@[simp] theorem State.setStation_supply (v : Station) : (s.setStation v).supply = s.supply := rfl
@[simp] theorem State.setStation_faults (v : Station) : (s.setStation v).faults = s.faults := rfl
@[simp] theorem State.setStation_held (v : Station) : (s.setStation v).held = s.held := rfl
@[simp] theorem State.setStation_config (v : Station) : (s.setStation v).config = s.config := rfl
@[simp] theorem State.setStation_bases (v : Station) : (s.setStation v).bases = s.bases := rfl

@[simp] theorem State.setCfg_pending (v : Option Configuration) : (s.setCfg v).pending = s.pending := rfl
@[simp] theorem State.setCfg_station (v : Option Configuration) : (s.setCfg v).station = s.station := rfl
@[simp] theorem State.setCfg_cfg (v : Option Configuration) : (s.setCfg v).cfg = v := rfl
@[simp] theorem State.setCfg_start (v : Option Configuration) : (s.setCfg v).start = s.start := rfl
@[simp] theorem State.setCfg_scanner (v : Option Configuration) : (s.setCfg v).scanner = s.scanner := rfl
@[simp] theorem State.setCfg_image (v : Option Configuration) : (s.setCfg v).image = s.image := rfl
@[simp] theorem State.setCfg_refreshPointer (v : Option Configuration) : (s.setCfg v).refreshPointer = s.refreshPointer := rfl
@[simp] theorem State.setCfg_recallUnit (v : Option Configuration) : (s.setCfg v).recallUnit = s.recallUnit := rfl
@[simp] theorem State.setCfg_answers (v : Option Configuration) : (s.setCfg v).answers = s.answers := rfl
@[simp] theorem State.setCfg_sequencer (v : Option Configuration) : (s.setCfg v).sequencer = s.sequencer := rfl
@[simp] theorem State.setCfg_memory (v : Option Configuration) : (s.setCfg v).memory = s.memory := rfl
@[simp] theorem State.setCfg_crescendo (v : Option Configuration) : (s.setCfg v).crescendo = s.crescendo := rfl
@[simp] theorem State.setCfg_motion (v : Option Configuration) : (s.setCfg v).motion = s.motion := rfl
@[simp] theorem State.setCfg_link (v : Option Configuration) : (s.setCfg v).link = s.link := rfl
@[simp] theorem State.setCfg_peers (v : Option Configuration) : (s.setCfg v).peers = s.peers := rfl
@[simp] theorem State.setCfg_supply (v : Option Configuration) : (s.setCfg v).supply = s.supply := rfl
@[simp] theorem State.setCfg_faults (v : Option Configuration) : (s.setCfg v).faults = s.faults := rfl
@[simp] theorem State.setCfg_held (v : Option Configuration) : (s.setCfg v).held = s.held := rfl
@[simp] theorem State.setCfg_bases (v : Option Configuration) : (s.setCfg v).bases = s.bases := rfl

@[simp] theorem State.setStart_pending (v : StartController) : (s.setStart v).pending = s.pending := rfl
@[simp] theorem State.setStart_station (v : StartController) : (s.setStart v).station = s.station := rfl
@[simp] theorem State.setStart_cfg (v : StartController) : (s.setStart v).cfg = s.cfg := rfl
@[simp] theorem State.setStart_start (v : StartController) : (s.setStart v).start = v := rfl
@[simp] theorem State.setStart_scanner (v : StartController) : (s.setStart v).scanner = s.scanner := rfl
@[simp] theorem State.setStart_image (v : StartController) : (s.setStart v).image = s.image := rfl
@[simp] theorem State.setStart_refreshPointer (v : StartController) : (s.setStart v).refreshPointer = s.refreshPointer := rfl
@[simp] theorem State.setStart_recallUnit (v : StartController) : (s.setStart v).recallUnit = s.recallUnit := rfl
@[simp] theorem State.setStart_answers (v : StartController) : (s.setStart v).answers = s.answers := rfl
@[simp] theorem State.setStart_sequencer (v : StartController) : (s.setStart v).sequencer = s.sequencer := rfl
@[simp] theorem State.setStart_memory (v : StartController) : (s.setStart v).memory = s.memory := rfl
@[simp] theorem State.setStart_crescendo (v : StartController) : (s.setStart v).crescendo = s.crescendo := rfl
@[simp] theorem State.setStart_motion (v : StartController) : (s.setStart v).motion = s.motion := rfl
@[simp] theorem State.setStart_link (v : StartController) : (s.setStart v).link = s.link := rfl
@[simp] theorem State.setStart_peers (v : StartController) : (s.setStart v).peers = s.peers := rfl
@[simp] theorem State.setStart_supply (v : StartController) : (s.setStart v).supply = s.supply := rfl
@[simp] theorem State.setStart_faults (v : StartController) : (s.setStart v).faults = s.faults := rfl
@[simp] theorem State.setStart_held (v : StartController) : (s.setStart v).held = s.held := rfl
@[simp] theorem State.setStart_config (v : StartController) : (s.setStart v).config = s.config := rfl
@[simp] theorem State.setStart_bases (v : StartController) : (s.setStart v).bases = s.bases := rfl

@[simp] theorem State.setScanner_pending (v : Scanner) : (s.setScanner v).pending = s.pending := rfl
@[simp] theorem State.setScanner_station (v : Scanner) : (s.setScanner v).station = s.station := rfl
@[simp] theorem State.setScanner_cfg (v : Scanner) : (s.setScanner v).cfg = s.cfg := rfl
@[simp] theorem State.setScanner_start (v : Scanner) : (s.setScanner v).start = s.start := rfl
@[simp] theorem State.setScanner_scanner (v : Scanner) : (s.setScanner v).scanner = v := rfl
@[simp] theorem State.setScanner_image (v : Scanner) : (s.setScanner v).image = s.image := rfl
@[simp] theorem State.setScanner_refreshPointer (v : Scanner) : (s.setScanner v).refreshPointer = s.refreshPointer := rfl
@[simp] theorem State.setScanner_recallUnit (v : Scanner) : (s.setScanner v).recallUnit = s.recallUnit := rfl
@[simp] theorem State.setScanner_answers (v : Scanner) : (s.setScanner v).answers = s.answers := rfl
@[simp] theorem State.setScanner_sequencer (v : Scanner) : (s.setScanner v).sequencer = s.sequencer := rfl
@[simp] theorem State.setScanner_memory (v : Scanner) : (s.setScanner v).memory = s.memory := rfl
@[simp] theorem State.setScanner_crescendo (v : Scanner) : (s.setScanner v).crescendo = s.crescendo := rfl
@[simp] theorem State.setScanner_motion (v : Scanner) : (s.setScanner v).motion = s.motion := rfl
@[simp] theorem State.setScanner_link (v : Scanner) : (s.setScanner v).link = s.link := rfl
@[simp] theorem State.setScanner_peers (v : Scanner) : (s.setScanner v).peers = s.peers := rfl
@[simp] theorem State.setScanner_supply (v : Scanner) : (s.setScanner v).supply = s.supply := rfl
@[simp] theorem State.setScanner_faults (v : Scanner) : (s.setScanner v).faults = s.faults := rfl
@[simp] theorem State.setScanner_held (v : Scanner) : (s.setScanner v).held = s.held := rfl
@[simp] theorem State.setScanner_config (v : Scanner) : (s.setScanner v).config = s.config := rfl
@[simp] theorem State.setScanner_bases (v : Scanner) : (s.setScanner v).bases = s.bases := rfl

@[simp] theorem State.setImage_pending (v : List Division) : (s.setImage v).pending = s.pending := rfl
@[simp] theorem State.setImage_station (v : List Division) : (s.setImage v).station = s.station := rfl
@[simp] theorem State.setImage_cfg (v : List Division) : (s.setImage v).cfg = s.cfg := rfl
@[simp] theorem State.setImage_start (v : List Division) : (s.setImage v).start = s.start := rfl
@[simp] theorem State.setImage_scanner (v : List Division) : (s.setImage v).scanner = s.scanner := rfl
@[simp] theorem State.setImage_image (v : List Division) : (s.setImage v).image = v := rfl
@[simp] theorem State.setImage_refreshPointer (v : List Division) : (s.setImage v).refreshPointer = s.refreshPointer := rfl
@[simp] theorem State.setImage_recallUnit (v : List Division) : (s.setImage v).recallUnit = s.recallUnit := rfl
@[simp] theorem State.setImage_answers (v : List Division) : (s.setImage v).answers = s.answers := rfl
@[simp] theorem State.setImage_sequencer (v : List Division) : (s.setImage v).sequencer = s.sequencer := rfl
@[simp] theorem State.setImage_memory (v : List Division) : (s.setImage v).memory = s.memory := rfl
@[simp] theorem State.setImage_crescendo (v : List Division) : (s.setImage v).crescendo = s.crescendo := rfl
@[simp] theorem State.setImage_motion (v : List Division) : (s.setImage v).motion = s.motion := rfl
@[simp] theorem State.setImage_link (v : List Division) : (s.setImage v).link = s.link := rfl
@[simp] theorem State.setImage_peers (v : List Division) : (s.setImage v).peers = s.peers := rfl
@[simp] theorem State.setImage_supply (v : List Division) : (s.setImage v).supply = s.supply := rfl
@[simp] theorem State.setImage_faults (v : List Division) : (s.setImage v).faults = s.faults := rfl
@[simp] theorem State.setImage_held (v : List Division) : (s.setImage v).held = s.held := rfl
@[simp] theorem State.setImage_config (v : List Division) : (s.setImage v).config = s.config := rfl
@[simp] theorem State.setImage_bases (v : List Division) : (s.setImage v).bases = s.bases := rfl

@[simp] theorem State.setRefreshPointer_pending (v : Nat) : (s.setRefreshPointer v).pending = s.pending := rfl
@[simp] theorem State.setRefreshPointer_station (v : Nat) : (s.setRefreshPointer v).station = s.station := rfl
@[simp] theorem State.setRefreshPointer_cfg (v : Nat) : (s.setRefreshPointer v).cfg = s.cfg := rfl
@[simp] theorem State.setRefreshPointer_start (v : Nat) : (s.setRefreshPointer v).start = s.start := rfl
@[simp] theorem State.setRefreshPointer_scanner (v : Nat) : (s.setRefreshPointer v).scanner = s.scanner := rfl
@[simp] theorem State.setRefreshPointer_image (v : Nat) : (s.setRefreshPointer v).image = s.image := rfl
@[simp] theorem State.setRefreshPointer_refreshPointer (v : Nat) : (s.setRefreshPointer v).refreshPointer = v := rfl
@[simp] theorem State.setRefreshPointer_recallUnit (v : Nat) : (s.setRefreshPointer v).recallUnit = s.recallUnit := rfl
@[simp] theorem State.setRefreshPointer_answers (v : Nat) : (s.setRefreshPointer v).answers = s.answers := rfl
@[simp] theorem State.setRefreshPointer_sequencer (v : Nat) : (s.setRefreshPointer v).sequencer = s.sequencer := rfl
@[simp] theorem State.setRefreshPointer_memory (v : Nat) : (s.setRefreshPointer v).memory = s.memory := rfl
@[simp] theorem State.setRefreshPointer_crescendo (v : Nat) : (s.setRefreshPointer v).crescendo = s.crescendo := rfl
@[simp] theorem State.setRefreshPointer_motion (v : Nat) : (s.setRefreshPointer v).motion = s.motion := rfl
@[simp] theorem State.setRefreshPointer_link (v : Nat) : (s.setRefreshPointer v).link = s.link := rfl
@[simp] theorem State.setRefreshPointer_peers (v : Nat) : (s.setRefreshPointer v).peers = s.peers := rfl
@[simp] theorem State.setRefreshPointer_supply (v : Nat) : (s.setRefreshPointer v).supply = s.supply := rfl
@[simp] theorem State.setRefreshPointer_faults (v : Nat) : (s.setRefreshPointer v).faults = s.faults := rfl
@[simp] theorem State.setRefreshPointer_held (v : Nat) : (s.setRefreshPointer v).held = s.held := rfl
@[simp] theorem State.setRefreshPointer_config (v : Nat) : (s.setRefreshPointer v).config = s.config := rfl
@[simp] theorem State.setRefreshPointer_bases (v : Nat) : (s.setRefreshPointer v).bases = s.bases := rfl

@[simp] theorem State.setRecallUnit_pending (v : RecallUnit) : (s.setRecallUnit v).pending = s.pending := rfl
@[simp] theorem State.setRecallUnit_station (v : RecallUnit) : (s.setRecallUnit v).station = s.station := rfl
@[simp] theorem State.setRecallUnit_cfg (v : RecallUnit) : (s.setRecallUnit v).cfg = s.cfg := rfl
@[simp] theorem State.setRecallUnit_start (v : RecallUnit) : (s.setRecallUnit v).start = s.start := rfl
@[simp] theorem State.setRecallUnit_scanner (v : RecallUnit) : (s.setRecallUnit v).scanner = s.scanner := rfl
@[simp] theorem State.setRecallUnit_image (v : RecallUnit) : (s.setRecallUnit v).image = s.image := rfl
@[simp] theorem State.setRecallUnit_refreshPointer (v : RecallUnit) : (s.setRecallUnit v).refreshPointer = s.refreshPointer := rfl
@[simp] theorem State.setRecallUnit_recallUnit (v : RecallUnit) : (s.setRecallUnit v).recallUnit = v := rfl
@[simp] theorem State.setRecallUnit_answers (v : RecallUnit) : (s.setRecallUnit v).answers = s.answers := rfl
@[simp] theorem State.setRecallUnit_sequencer (v : RecallUnit) : (s.setRecallUnit v).sequencer = s.sequencer := rfl
@[simp] theorem State.setRecallUnit_memory (v : RecallUnit) : (s.setRecallUnit v).memory = s.memory := rfl
@[simp] theorem State.setRecallUnit_crescendo (v : RecallUnit) : (s.setRecallUnit v).crescendo = s.crescendo := rfl
@[simp] theorem State.setRecallUnit_motion (v : RecallUnit) : (s.setRecallUnit v).motion = s.motion := rfl
@[simp] theorem State.setRecallUnit_link (v : RecallUnit) : (s.setRecallUnit v).link = s.link := rfl
@[simp] theorem State.setRecallUnit_peers (v : RecallUnit) : (s.setRecallUnit v).peers = s.peers := rfl
@[simp] theorem State.setRecallUnit_supply (v : RecallUnit) : (s.setRecallUnit v).supply = s.supply := rfl
@[simp] theorem State.setRecallUnit_faults (v : RecallUnit) : (s.setRecallUnit v).faults = s.faults := rfl
@[simp] theorem State.setRecallUnit_held (v : RecallUnit) : (s.setRecallUnit v).held = s.held := rfl
@[simp] theorem State.setRecallUnit_config (v : RecallUnit) : (s.setRecallUnit v).config = s.config := rfl
@[simp] theorem State.setRecallUnit_bases (v : RecallUnit) : (s.setRecallUnit v).bases = s.bases := rfl

@[simp] theorem State.setAnswers_pending (v : List Answer) : (s.setAnswers v).pending = s.pending := rfl
@[simp] theorem State.setAnswers_station (v : List Answer) : (s.setAnswers v).station = s.station := rfl
@[simp] theorem State.setAnswers_cfg (v : List Answer) : (s.setAnswers v).cfg = s.cfg := rfl
@[simp] theorem State.setAnswers_start (v : List Answer) : (s.setAnswers v).start = s.start := rfl
@[simp] theorem State.setAnswers_scanner (v : List Answer) : (s.setAnswers v).scanner = s.scanner := rfl
@[simp] theorem State.setAnswers_image (v : List Answer) : (s.setAnswers v).image = s.image := rfl
@[simp] theorem State.setAnswers_refreshPointer (v : List Answer) : (s.setAnswers v).refreshPointer = s.refreshPointer := rfl
@[simp] theorem State.setAnswers_recallUnit (v : List Answer) : (s.setAnswers v).recallUnit = s.recallUnit := rfl
@[simp] theorem State.setAnswers_answers (v : List Answer) : (s.setAnswers v).answers = v := rfl
@[simp] theorem State.setAnswers_sequencer (v : List Answer) : (s.setAnswers v).sequencer = s.sequencer := rfl
@[simp] theorem State.setAnswers_memory (v : List Answer) : (s.setAnswers v).memory = s.memory := rfl
@[simp] theorem State.setAnswers_crescendo (v : List Answer) : (s.setAnswers v).crescendo = s.crescendo := rfl
@[simp] theorem State.setAnswers_motion (v : List Answer) : (s.setAnswers v).motion = s.motion := rfl
@[simp] theorem State.setAnswers_link (v : List Answer) : (s.setAnswers v).link = s.link := rfl
@[simp] theorem State.setAnswers_peers (v : List Answer) : (s.setAnswers v).peers = s.peers := rfl
@[simp] theorem State.setAnswers_supply (v : List Answer) : (s.setAnswers v).supply = s.supply := rfl
@[simp] theorem State.setAnswers_faults (v : List Answer) : (s.setAnswers v).faults = s.faults := rfl
@[simp] theorem State.setAnswers_held (v : List Answer) : (s.setAnswers v).held = s.held := rfl
@[simp] theorem State.setAnswers_config (v : List Answer) : (s.setAnswers v).config = s.config := rfl
@[simp] theorem State.setAnswers_bases (v : List Answer) : (s.setAnswers v).bases = s.bases := rfl

@[simp] theorem State.setSequencer_pending (v : Sequencer) : (s.setSequencer v).pending = s.pending := rfl
@[simp] theorem State.setSequencer_station (v : Sequencer) : (s.setSequencer v).station = s.station := rfl
@[simp] theorem State.setSequencer_cfg (v : Sequencer) : (s.setSequencer v).cfg = s.cfg := rfl
@[simp] theorem State.setSequencer_start (v : Sequencer) : (s.setSequencer v).start = s.start := rfl
@[simp] theorem State.setSequencer_scanner (v : Sequencer) : (s.setSequencer v).scanner = s.scanner := rfl
@[simp] theorem State.setSequencer_image (v : Sequencer) : (s.setSequencer v).image = s.image := rfl
@[simp] theorem State.setSequencer_refreshPointer (v : Sequencer) : (s.setSequencer v).refreshPointer = s.refreshPointer := rfl
@[simp] theorem State.setSequencer_recallUnit (v : Sequencer) : (s.setSequencer v).recallUnit = s.recallUnit := rfl
@[simp] theorem State.setSequencer_answers (v : Sequencer) : (s.setSequencer v).answers = s.answers := rfl
@[simp] theorem State.setSequencer_sequencer (v : Sequencer) : (s.setSequencer v).sequencer = v := rfl
@[simp] theorem State.setSequencer_memory (v : Sequencer) : (s.setSequencer v).memory = s.memory := rfl
@[simp] theorem State.setSequencer_crescendo (v : Sequencer) : (s.setSequencer v).crescendo = s.crescendo := rfl
@[simp] theorem State.setSequencer_motion (v : Sequencer) : (s.setSequencer v).motion = s.motion := rfl
@[simp] theorem State.setSequencer_link (v : Sequencer) : (s.setSequencer v).link = s.link := rfl
@[simp] theorem State.setSequencer_peers (v : Sequencer) : (s.setSequencer v).peers = s.peers := rfl
@[simp] theorem State.setSequencer_supply (v : Sequencer) : (s.setSequencer v).supply = s.supply := rfl
@[simp] theorem State.setSequencer_faults (v : Sequencer) : (s.setSequencer v).faults = s.faults := rfl
@[simp] theorem State.setSequencer_held (v : Sequencer) : (s.setSequencer v).held = s.held := rfl
@[simp] theorem State.setSequencer_config (v : Sequencer) : (s.setSequencer v).config = s.config := rfl
@[simp] theorem State.setSequencer_bases (v : Sequencer) : (s.setSequencer v).bases = s.bases := rfl

@[simp] theorem State.setMemory_pending (v : MemoryController) : (s.setMemory v).pending = s.pending := rfl
@[simp] theorem State.setMemory_station (v : MemoryController) : (s.setMemory v).station = s.station := rfl
@[simp] theorem State.setMemory_cfg (v : MemoryController) : (s.setMemory v).cfg = s.cfg := rfl
@[simp] theorem State.setMemory_start (v : MemoryController) : (s.setMemory v).start = s.start := rfl
@[simp] theorem State.setMemory_scanner (v : MemoryController) : (s.setMemory v).scanner = s.scanner := rfl
@[simp] theorem State.setMemory_image (v : MemoryController) : (s.setMemory v).image = s.image := rfl
@[simp] theorem State.setMemory_refreshPointer (v : MemoryController) : (s.setMemory v).refreshPointer = s.refreshPointer := rfl
@[simp] theorem State.setMemory_recallUnit (v : MemoryController) : (s.setMemory v).recallUnit = s.recallUnit := rfl
@[simp] theorem State.setMemory_answers (v : MemoryController) : (s.setMemory v).answers = s.answers := rfl
@[simp] theorem State.setMemory_sequencer (v : MemoryController) : (s.setMemory v).sequencer = s.sequencer := rfl
@[simp] theorem State.setMemory_memory (v : MemoryController) : (s.setMemory v).memory = v := rfl
@[simp] theorem State.setMemory_crescendo (v : MemoryController) : (s.setMemory v).crescendo = s.crescendo := rfl
@[simp] theorem State.setMemory_motion (v : MemoryController) : (s.setMemory v).motion = s.motion := rfl
@[simp] theorem State.setMemory_link (v : MemoryController) : (s.setMemory v).link = s.link := rfl
@[simp] theorem State.setMemory_peers (v : MemoryController) : (s.setMemory v).peers = s.peers := rfl
@[simp] theorem State.setMemory_supply (v : MemoryController) : (s.setMemory v).supply = s.supply := rfl
@[simp] theorem State.setMemory_faults (v : MemoryController) : (s.setMemory v).faults = s.faults := rfl
@[simp] theorem State.setMemory_held (v : MemoryController) : (s.setMemory v).held = s.held := rfl
@[simp] theorem State.setMemory_config (v : MemoryController) : (s.setMemory v).config = s.config := rfl

@[simp] theorem State.setCrescendo_pending (v : CrescendoUnit) : (s.setCrescendo v).pending = s.pending := rfl
@[simp] theorem State.setCrescendo_station (v : CrescendoUnit) : (s.setCrescendo v).station = s.station := rfl
@[simp] theorem State.setCrescendo_cfg (v : CrescendoUnit) : (s.setCrescendo v).cfg = s.cfg := rfl
@[simp] theorem State.setCrescendo_start (v : CrescendoUnit) : (s.setCrescendo v).start = s.start := rfl
@[simp] theorem State.setCrescendo_scanner (v : CrescendoUnit) : (s.setCrescendo v).scanner = s.scanner := rfl
@[simp] theorem State.setCrescendo_image (v : CrescendoUnit) : (s.setCrescendo v).image = s.image := rfl
@[simp] theorem State.setCrescendo_refreshPointer (v : CrescendoUnit) : (s.setCrescendo v).refreshPointer = s.refreshPointer := rfl
@[simp] theorem State.setCrescendo_recallUnit (v : CrescendoUnit) : (s.setCrescendo v).recallUnit = s.recallUnit := rfl
@[simp] theorem State.setCrescendo_answers (v : CrescendoUnit) : (s.setCrescendo v).answers = s.answers := rfl
@[simp] theorem State.setCrescendo_sequencer (v : CrescendoUnit) : (s.setCrescendo v).sequencer = s.sequencer := rfl
@[simp] theorem State.setCrescendo_memory (v : CrescendoUnit) : (s.setCrescendo v).memory = s.memory := rfl
@[simp] theorem State.setCrescendo_crescendo (v : CrescendoUnit) : (s.setCrescendo v).crescendo = v := rfl
@[simp] theorem State.setCrescendo_motion (v : CrescendoUnit) : (s.setCrescendo v).motion = s.motion := rfl
@[simp] theorem State.setCrescendo_link (v : CrescendoUnit) : (s.setCrescendo v).link = s.link := rfl
@[simp] theorem State.setCrescendo_peers (v : CrescendoUnit) : (s.setCrescendo v).peers = s.peers := rfl
@[simp] theorem State.setCrescendo_supply (v : CrescendoUnit) : (s.setCrescendo v).supply = s.supply := rfl
@[simp] theorem State.setCrescendo_faults (v : CrescendoUnit) : (s.setCrescendo v).faults = s.faults := rfl
@[simp] theorem State.setCrescendo_held (v : CrescendoUnit) : (s.setCrescendo v).held = s.held := rfl
@[simp] theorem State.setCrescendo_config (v : CrescendoUnit) : (s.setCrescendo v).config = s.config := rfl
@[simp] theorem State.setCrescendo_bases (v : CrescendoUnit) : (s.setCrescendo v).bases = s.bases := rfl

@[simp] theorem State.setMotion_pending (v : Motion) : (s.setMotion v).pending = s.pending := rfl
@[simp] theorem State.setMotion_station (v : Motion) : (s.setMotion v).station = s.station := rfl
@[simp] theorem State.setMotion_cfg (v : Motion) : (s.setMotion v).cfg = s.cfg := rfl
@[simp] theorem State.setMotion_start (v : Motion) : (s.setMotion v).start = s.start := rfl
@[simp] theorem State.setMotion_scanner (v : Motion) : (s.setMotion v).scanner = s.scanner := rfl
@[simp] theorem State.setMotion_image (v : Motion) : (s.setMotion v).image = s.image := rfl
@[simp] theorem State.setMotion_refreshPointer (v : Motion) : (s.setMotion v).refreshPointer = s.refreshPointer := rfl
@[simp] theorem State.setMotion_recallUnit (v : Motion) : (s.setMotion v).recallUnit = s.recallUnit := rfl
@[simp] theorem State.setMotion_answers (v : Motion) : (s.setMotion v).answers = s.answers := rfl
@[simp] theorem State.setMotion_sequencer (v : Motion) : (s.setMotion v).sequencer = s.sequencer := rfl
@[simp] theorem State.setMotion_memory (v : Motion) : (s.setMotion v).memory = s.memory := rfl
@[simp] theorem State.setMotion_crescendo (v : Motion) : (s.setMotion v).crescendo = s.crescendo := rfl
@[simp] theorem State.setMotion_motion (v : Motion) : (s.setMotion v).motion = v := rfl
@[simp] theorem State.setMotion_link (v : Motion) : (s.setMotion v).link = s.link := rfl
@[simp] theorem State.setMotion_peers (v : Motion) : (s.setMotion v).peers = s.peers := rfl
@[simp] theorem State.setMotion_supply (v : Motion) : (s.setMotion v).supply = s.supply := rfl
@[simp] theorem State.setMotion_faults (v : Motion) : (s.setMotion v).faults = s.faults := rfl
@[simp] theorem State.setMotion_held (v : Motion) : (s.setMotion v).held = s.held := rfl
@[simp] theorem State.setMotion_config (v : Motion) : (s.setMotion v).config = s.config := rfl
@[simp] theorem State.setMotion_bases (v : Motion) : (s.setMotion v).bases = s.bases := rfl

@[simp] theorem State.setLink_pending (v : Link) : (s.setLink v).pending = s.pending := rfl
@[simp] theorem State.setLink_station (v : Link) : (s.setLink v).station = s.station := rfl
@[simp] theorem State.setLink_cfg (v : Link) : (s.setLink v).cfg = s.cfg := rfl
@[simp] theorem State.setLink_start (v : Link) : (s.setLink v).start = s.start := rfl
@[simp] theorem State.setLink_scanner (v : Link) : (s.setLink v).scanner = s.scanner := rfl
@[simp] theorem State.setLink_image (v : Link) : (s.setLink v).image = s.image := rfl
@[simp] theorem State.setLink_refreshPointer (v : Link) : (s.setLink v).refreshPointer = s.refreshPointer := rfl
@[simp] theorem State.setLink_recallUnit (v : Link) : (s.setLink v).recallUnit = s.recallUnit := rfl
@[simp] theorem State.setLink_answers (v : Link) : (s.setLink v).answers = s.answers := rfl
@[simp] theorem State.setLink_sequencer (v : Link) : (s.setLink v).sequencer = s.sequencer := rfl
@[simp] theorem State.setLink_memory (v : Link) : (s.setLink v).memory = s.memory := rfl
@[simp] theorem State.setLink_crescendo (v : Link) : (s.setLink v).crescendo = s.crescendo := rfl
@[simp] theorem State.setLink_motion (v : Link) : (s.setLink v).motion = s.motion := rfl
@[simp] theorem State.setLink_link (v : Link) : (s.setLink v).link = v := rfl
@[simp] theorem State.setLink_peers (v : Link) : (s.setLink v).peers = s.peers := rfl
@[simp] theorem State.setLink_supply (v : Link) : (s.setLink v).supply = s.supply := rfl
@[simp] theorem State.setLink_faults (v : Link) : (s.setLink v).faults = s.faults := rfl
@[simp] theorem State.setLink_held (v : Link) : (s.setLink v).held = s.held := rfl
@[simp] theorem State.setLink_config (v : Link) : (s.setLink v).config = s.config := rfl
@[simp] theorem State.setLink_bases (v : Link) : (s.setLink v).bases = s.bases := rfl

@[simp] theorem State.setPeers_pending (v : List (Option Peer)) : (s.setPeers v).pending = s.pending := rfl
@[simp] theorem State.setPeers_station (v : List (Option Peer)) : (s.setPeers v).station = s.station := rfl
@[simp] theorem State.setPeers_cfg (v : List (Option Peer)) : (s.setPeers v).cfg = s.cfg := rfl
@[simp] theorem State.setPeers_start (v : List (Option Peer)) : (s.setPeers v).start = s.start := rfl
@[simp] theorem State.setPeers_scanner (v : List (Option Peer)) : (s.setPeers v).scanner = s.scanner := rfl
@[simp] theorem State.setPeers_image (v : List (Option Peer)) : (s.setPeers v).image = s.image := rfl
@[simp] theorem State.setPeers_refreshPointer (v : List (Option Peer)) : (s.setPeers v).refreshPointer = s.refreshPointer := rfl
@[simp] theorem State.setPeers_recallUnit (v : List (Option Peer)) : (s.setPeers v).recallUnit = s.recallUnit := rfl
@[simp] theorem State.setPeers_answers (v : List (Option Peer)) : (s.setPeers v).answers = s.answers := rfl
@[simp] theorem State.setPeers_sequencer (v : List (Option Peer)) : (s.setPeers v).sequencer = s.sequencer := rfl
@[simp] theorem State.setPeers_memory (v : List (Option Peer)) : (s.setPeers v).memory = s.memory := rfl
@[simp] theorem State.setPeers_crescendo (v : List (Option Peer)) : (s.setPeers v).crescendo = s.crescendo := rfl
@[simp] theorem State.setPeers_motion (v : List (Option Peer)) : (s.setPeers v).motion = s.motion := rfl
@[simp] theorem State.setPeers_link (v : List (Option Peer)) : (s.setPeers v).link = s.link := rfl
@[simp] theorem State.setPeers_peers (v : List (Option Peer)) : (s.setPeers v).peers = v := rfl
@[simp] theorem State.setPeers_supply (v : List (Option Peer)) : (s.setPeers v).supply = s.supply := rfl
@[simp] theorem State.setPeers_faults (v : List (Option Peer)) : (s.setPeers v).faults = s.faults := rfl
@[simp] theorem State.setPeers_held (v : List (Option Peer)) : (s.setPeers v).held = s.held := rfl
@[simp] theorem State.setPeers_config (v : List (Option Peer)) : (s.setPeers v).config = s.config := rfl
@[simp] theorem State.setPeers_bases (v : List (Option Peer)) : (s.setPeers v).bases = s.bases := rfl

@[simp] theorem State.setSupply_pending (v : Supply) : (s.setSupply v).pending = s.pending := rfl
@[simp] theorem State.setSupply_station (v : Supply) : (s.setSupply v).station = s.station := rfl
@[simp] theorem State.setSupply_cfg (v : Supply) : (s.setSupply v).cfg = s.cfg := rfl
@[simp] theorem State.setSupply_start (v : Supply) : (s.setSupply v).start = s.start := rfl
@[simp] theorem State.setSupply_scanner (v : Supply) : (s.setSupply v).scanner = s.scanner := rfl
@[simp] theorem State.setSupply_image (v : Supply) : (s.setSupply v).image = s.image := rfl
@[simp] theorem State.setSupply_refreshPointer (v : Supply) : (s.setSupply v).refreshPointer = s.refreshPointer := rfl
@[simp] theorem State.setSupply_recallUnit (v : Supply) : (s.setSupply v).recallUnit = s.recallUnit := rfl
@[simp] theorem State.setSupply_answers (v : Supply) : (s.setSupply v).answers = s.answers := rfl
@[simp] theorem State.setSupply_sequencer (v : Supply) : (s.setSupply v).sequencer = s.sequencer := rfl
@[simp] theorem State.setSupply_memory (v : Supply) : (s.setSupply v).memory = s.memory := rfl
@[simp] theorem State.setSupply_crescendo (v : Supply) : (s.setSupply v).crescendo = s.crescendo := rfl
@[simp] theorem State.setSupply_motion (v : Supply) : (s.setSupply v).motion = s.motion := rfl
@[simp] theorem State.setSupply_link (v : Supply) : (s.setSupply v).link = s.link := rfl
@[simp] theorem State.setSupply_peers (v : Supply) : (s.setSupply v).peers = s.peers := rfl
@[simp] theorem State.setSupply_supply (v : Supply) : (s.setSupply v).supply = v := rfl
@[simp] theorem State.setSupply_faults (v : Supply) : (s.setSupply v).faults = s.faults := rfl
@[simp] theorem State.setSupply_held (v : Supply) : (s.setSupply v).held = s.held := rfl
@[simp] theorem State.setSupply_config (v : Supply) : (s.setSupply v).config = s.config := rfl
@[simp] theorem State.setSupply_bases (v : Supply) : (s.setSupply v).bases = s.bases := rfl

@[simp] theorem State.setFaults_pending (v : FaultSet) : (s.setFaults v).pending = s.pending := rfl
@[simp] theorem State.setFaults_station (v : FaultSet) : (s.setFaults v).station = s.station := rfl
@[simp] theorem State.setFaults_cfg (v : FaultSet) : (s.setFaults v).cfg = s.cfg := rfl
@[simp] theorem State.setFaults_start (v : FaultSet) : (s.setFaults v).start = s.start := rfl
@[simp] theorem State.setFaults_scanner (v : FaultSet) : (s.setFaults v).scanner = s.scanner := rfl
@[simp] theorem State.setFaults_image (v : FaultSet) : (s.setFaults v).image = s.image := rfl
@[simp] theorem State.setFaults_refreshPointer (v : FaultSet) : (s.setFaults v).refreshPointer = s.refreshPointer := rfl
@[simp] theorem State.setFaults_recallUnit (v : FaultSet) : (s.setFaults v).recallUnit = s.recallUnit := rfl
@[simp] theorem State.setFaults_answers (v : FaultSet) : (s.setFaults v).answers = s.answers := rfl
@[simp] theorem State.setFaults_sequencer (v : FaultSet) : (s.setFaults v).sequencer = s.sequencer := rfl
@[simp] theorem State.setFaults_memory (v : FaultSet) : (s.setFaults v).memory = s.memory := rfl
@[simp] theorem State.setFaults_crescendo (v : FaultSet) : (s.setFaults v).crescendo = s.crescendo := rfl
@[simp] theorem State.setFaults_motion (v : FaultSet) : (s.setFaults v).motion = s.motion := rfl
@[simp] theorem State.setFaults_link (v : FaultSet) : (s.setFaults v).link = s.link := rfl
@[simp] theorem State.setFaults_peers (v : FaultSet) : (s.setFaults v).peers = s.peers := rfl
@[simp] theorem State.setFaults_supply (v : FaultSet) : (s.setFaults v).supply = s.supply := rfl
@[simp] theorem State.setFaults_faults (v : FaultSet) : (s.setFaults v).faults = v := rfl
@[simp] theorem State.setFaults_held (v : FaultSet) : (s.setFaults v).held = s.held := rfl
@[simp] theorem State.setFaults_config (v : FaultSet) : (s.setFaults v).config = s.config := rfl
@[simp] theorem State.setFaults_bases (v : FaultSet) : (s.setFaults v).bases = s.bases := rfl

@[simp] theorem State.setHeld_pending (v : Panel) : (s.setHeld v).pending = s.pending := rfl
@[simp] theorem State.setHeld_station (v : Panel) : (s.setHeld v).station = s.station := rfl
@[simp] theorem State.setHeld_cfg (v : Panel) : (s.setHeld v).cfg = s.cfg := rfl
@[simp] theorem State.setHeld_start (v : Panel) : (s.setHeld v).start = s.start := rfl
@[simp] theorem State.setHeld_scanner (v : Panel) : (s.setHeld v).scanner = s.scanner := rfl
@[simp] theorem State.setHeld_image (v : Panel) : (s.setHeld v).image = s.image := rfl
@[simp] theorem State.setHeld_refreshPointer (v : Panel) : (s.setHeld v).refreshPointer = s.refreshPointer := rfl
@[simp] theorem State.setHeld_recallUnit (v : Panel) : (s.setHeld v).recallUnit = s.recallUnit := rfl
@[simp] theorem State.setHeld_answers (v : Panel) : (s.setHeld v).answers = s.answers := rfl
@[simp] theorem State.setHeld_sequencer (v : Panel) : (s.setHeld v).sequencer = s.sequencer := rfl
@[simp] theorem State.setHeld_memory (v : Panel) : (s.setHeld v).memory = s.memory := rfl
@[simp] theorem State.setHeld_crescendo (v : Panel) : (s.setHeld v).crescendo = s.crescendo := rfl
@[simp] theorem State.setHeld_motion (v : Panel) : (s.setHeld v).motion = s.motion := rfl
@[simp] theorem State.setHeld_link (v : Panel) : (s.setHeld v).link = s.link := rfl
@[simp] theorem State.setHeld_peers (v : Panel) : (s.setHeld v).peers = s.peers := rfl
@[simp] theorem State.setHeld_supply (v : Panel) : (s.setHeld v).supply = s.supply := rfl
@[simp] theorem State.setHeld_faults (v : Panel) : (s.setHeld v).faults = s.faults := rfl
@[simp] theorem State.setHeld_held (v : Panel) : (s.setHeld v).held = v := rfl
@[simp] theorem State.setHeld_config (v : Panel) : (s.setHeld v).config = s.config := rfl
@[simp] theorem State.setHeld_bases (v : Panel) : (s.setHeld v).bases = s.bases := rfl

@[simp] theorem State.setPending_twice (v w : List Instr) : (s.setPending v).setPending w = s.setPending w := rfl
@[simp] theorem State.setPending_self : s.setPending s.pending = s := rfl
@[simp] theorem State.setStation_twice (v w : Station) : (s.setStation v).setStation w = s.setStation w := rfl
@[simp] theorem State.setStation_self : s.setStation s.station = s := rfl
@[simp] theorem State.setCfg_twice (v w : Option Configuration) : (s.setCfg v).setCfg w = s.setCfg w := rfl
@[simp] theorem State.setCfg_self : s.setCfg s.cfg = s := rfl
@[simp] theorem State.setStart_twice (v w : StartController) : (s.setStart v).setStart w = s.setStart w := rfl
@[simp] theorem State.setStart_self : s.setStart s.start = s := rfl
@[simp] theorem State.setScanner_twice (v w : Scanner) : (s.setScanner v).setScanner w = s.setScanner w := rfl
@[simp] theorem State.setScanner_self : s.setScanner s.scanner = s := rfl
@[simp] theorem State.setImage_twice (v w : List Division) : (s.setImage v).setImage w = s.setImage w := rfl
@[simp] theorem State.setImage_self : s.setImage s.image = s := rfl
@[simp] theorem State.setRefreshPointer_twice (v w : Nat) : (s.setRefreshPointer v).setRefreshPointer w = s.setRefreshPointer w := rfl
@[simp] theorem State.setRefreshPointer_self : s.setRefreshPointer s.refreshPointer = s := rfl
@[simp] theorem State.setRecallUnit_twice (v w : RecallUnit) : (s.setRecallUnit v).setRecallUnit w = s.setRecallUnit w := rfl
@[simp] theorem State.setRecallUnit_self : s.setRecallUnit s.recallUnit = s := rfl
@[simp] theorem State.setAnswers_twice (v w : List Answer) : (s.setAnswers v).setAnswers w = s.setAnswers w := rfl
@[simp] theorem State.setAnswers_self : s.setAnswers s.answers = s := rfl
@[simp] theorem State.setSequencer_twice (v w : Sequencer) : (s.setSequencer v).setSequencer w = s.setSequencer w := rfl
@[simp] theorem State.setSequencer_self : s.setSequencer s.sequencer = s := rfl
@[simp] theorem State.setMemory_twice (v w : MemoryController) : (s.setMemory v).setMemory w = s.setMemory w := rfl
@[simp] theorem State.setMemory_self : s.setMemory s.memory = s := rfl
@[simp] theorem State.setCrescendo_twice (v w : CrescendoUnit) : (s.setCrescendo v).setCrescendo w = s.setCrescendo w := rfl
@[simp] theorem State.setCrescendo_self : s.setCrescendo s.crescendo = s := rfl
@[simp] theorem State.setMotion_twice (v w : Motion) : (s.setMotion v).setMotion w = s.setMotion w := rfl
@[simp] theorem State.setMotion_self : s.setMotion s.motion = s := rfl
@[simp] theorem State.setLink_twice (v w : Link) : (s.setLink v).setLink w = s.setLink w := rfl
@[simp] theorem State.setLink_self : s.setLink s.link = s := rfl
@[simp] theorem State.setPeers_twice (v w : List (Option Peer)) : (s.setPeers v).setPeers w = s.setPeers w := rfl
@[simp] theorem State.setPeers_self : s.setPeers s.peers = s := rfl
@[simp] theorem State.setSupply_twice (v w : Supply) : (s.setSupply v).setSupply w = s.setSupply w := rfl
@[simp] theorem State.setSupply_self : s.setSupply s.supply = s := rfl
@[simp] theorem State.setFaults_twice (v w : FaultSet) : (s.setFaults v).setFaults w = s.setFaults w := rfl
@[simp] theorem State.setFaults_self : s.setFaults s.faults = s := rfl
@[simp] theorem State.setHeld_twice (v w : Panel) : (s.setHeld v).setHeld w = s.setHeld w := rfl
@[simp] theorem State.setHeld_self : s.setHeld s.held = s := rfl

/-- Two states with the same fields are the same state. -/
@[ext] theorem State.ext_fields {s t : State}
    (h0 : s.pending = t.pending) (h1 : s.station = t.station) (h2 : s.cfg = t.cfg) (h3 : s.start = t.start) (h4 : s.scanner
    = t.scanner) (h5 : s.image = t.image) (h6 : s.refreshPointer = t.refreshPointer) (h7 : s.recallUnit = t.recallUnit) (h8
    : s.answers = t.answers) (h9 : s.sequencer = t.sequencer) (h10 : s.memory = t.memory) (h11 : s.crescendo = t.crescendo)
    (h12 : s.motion = t.motion) (h13 : s.link = t.link) (h14 : s.peers = t.peers) (h15 : s.supply = t.supply) (h16 :
    s.faults = t.faults) (h17 : s.held = t.held) :
    s = t := by
  cases s
  cases t
  simp_all

end Sys2Proof.Machine
end

