-- ==== Sys2Proof/Laws/Memory.lean ====
section
/-!
SUPPORT. The array: read after write, the canonical form, whole slots (R46).
-/

namespace Sys2Proof.Machine

/-! ### Bytes -/

/-- A byte below every listed address is unlisted. -/
theorem Memory.read_below {floor a : Nat} : ∀ {m : Memory}, Memory.wfFrom floor m = true → a < floor →
    Memory.read m a = Config.unlistedByte
  | [], _, _ => rfl
  | (b, v) :: rest, h, ha => by
    simp only [Memory.wfFrom, Bool.and_eq_true, decide_eq_true_eq] at h
    have hne : a ≠ b := by omega
    rw [Memory.read, if_neg hne]
    exact Memory.read_below h.2 (by omega)

/-- Raising the floor up to the first address keeps the form; lowering it always does. -/
theorem Memory.wfFrom_mono {floor low : Nat} : ∀ {m : Memory}, low ≤ floor → Memory.wfFrom floor m = true →
    Memory.wfFrom low m = true
  | [], _, _ => rfl
  | (b, v) :: rest, hl, h => by
    simp only [Memory.wfFrom, Bool.and_eq_true, decide_eq_true_eq] at h ⊢
    exact ⟨⟨by omega, h.1.2⟩, h.2⟩

/-- A write at or above the floor keeps the canonical form. -/
theorem Memory.write_wfFrom {floor a : Nat} {v : Byte} : ∀ {m : Memory}, Memory.wfFrom floor m = true → floor ≤ a →
    Memory.wfFrom floor (Memory.write m a v) = true
  | [], _, ha => by
    by_cases hv : v = Config.unlistedByte <;> simp [Memory.write, Memory.wfFrom, hv, ha]
  | (b, w) :: rest, h, ha => by
    simp only [Memory.wfFrom, Bool.and_eq_true, decide_eq_true_eq] at h
    obtain ⟨⟨hb, hw⟩, hr⟩ := h
    unfold Memory.write
    split
    · split
      · simp [Memory.wfFrom, hb, hw, hr]
      · rename_i hab hv
        simp [Memory.wfFrom, ha, hv, hw, hr]
        omega
    · split
      · rename_i hab hab'
        subst hab'
        split
        · exact Memory.wfFrom_mono (by omega) hr
        · rename_i hv
          simp [Memory.wfFrom, hb, hv, hr]
      · rename_i hab hab'
        simp [Memory.wfFrom, hb, hw, Memory.write_wfFrom hr (show b + 1 ≤ a by omega)]

/-- A write keeps the canonical form. -/
theorem Memory.write_wf {m : Memory} (h : Memory.wf m = true) (a : Nat) (v : Byte) : Memory.wf (Memory.write m a v) = true :=
  Memory.write_wfFrom h (Nat.zero_le a)

/-- A byte reads as it was written. -/
theorem Memory.read_write_same {floor : Nat} (a : Nat) (v : Byte) : ∀ {m : Memory}, Memory.wfFrom floor m = true →
    Memory.read (Memory.write m a v) a = v
  | [], _ => by
    by_cases hv : v = Config.unlistedByte <;> simp [Memory.write, Memory.read, hv]
  | (b, w) :: rest, h => by
    simp only [Memory.wfFrom, Bool.and_eq_true, decide_eq_true_eq] at h
    unfold Memory.write
    split
    · split
      · rename_i hab hv
        have hne : a ≠ b := by omega
        rw [Memory.read, if_neg hne, hv]
        exact Memory.read_below h.2 (by omega)
      · simp [Memory.read]
    · split
      · rename_i hab hab'
        split
        · rename_i hv
          rw [hv]
          exact Memory.read_below h.2 (by omega)
        · simp [Memory.read]
      · rename_i hab hab'
        rw [Memory.read, if_neg hab']
        exact Memory.read_write_same a v h.2

/-- A write leaves every other byte alone. -/
theorem Memory.read_write_other {a k : Nat} (v : Byte) (hk : k ≠ a) : ∀ (m : Memory),
    Memory.read (Memory.write m a v) k = Memory.read m k
  | [] => by
    by_cases hv : v = Config.unlistedByte <;> simp [Memory.write, Memory.read, hv, hk]
  | (b, w) :: rest => by
    unfold Memory.write
    split
    · split <;> simp [Memory.read, hk]
    · split
      · rename_i hab hab'
        subst hab'
        split <;> simp [Memory.read, hk]
      · by_cases hb : k = b <;> simp [Memory.read, hb, Memory.read_write_other v hk rest]

/-- Two arrays in canonical form that read alike are the same data. -/
theorem Memory.eq_of_read {m n : Memory} : ∀ {floor : Nat}, Memory.wfFrom floor m = true → Memory.wfFrom floor n = true →
    (∀ a, Memory.read m a = Memory.read n a) → m = n := by
  induction m generalizing n with
  | nil =>
    intro floor _ hn h
    cases n with
    | nil => rfl
    | cons x rest =>
      obtain ⟨b, w⟩ := x
      simp only [Memory.wfFrom, Bool.and_eq_true, bne_iff_ne] at hn
      exact absurd (by simpa [Memory.read] using (h b).symm) hn.1.2
  | cons x rest ih =>
    intro floor hm hn h
    obtain ⟨a, v⟩ := x
    simp only [Memory.wfFrom, Bool.and_eq_true, bne_iff_ne, decide_eq_true_eq] at hm
    cases n with
    | nil => exact absurd (by simpa [Memory.read] using h a) hm.1.2
    | cons y rest' =>
      obtain ⟨b, w⟩ := y
      simp only [Memory.wfFrom, Bool.and_eq_true, bne_iff_ne, decide_eq_true_eq] at hn
      have hab : a = b := by
        rcases Nat.lt_trichotomy a b with hlt | heq | hlt
        · have := h a
          rw [Memory.read, if_pos rfl, Memory.read, if_neg (by omega), Memory.read_below hn.2 (by omega)] at this
          exact absurd this hm.1.2
        · exact heq
        · have := h b
          rw [Memory.read, if_neg (by omega), Memory.read_below hm.2 (by omega), Memory.read, if_pos rfl] at this
          exact absurd this.symm hn.1.2
      subst hab
      have hvw : v = w := by simpa [Memory.read] using h a
      subst hvw
      refine congrArg _ (ih hm.2 hn.2 fun k => ?_)
      by_cases hk : k = a
      · subst hk
        rw [Memory.read_below hm.2 (by omega), Memory.read_below hn.2 (by omega)]
      · simpa [Memory.read, hk] using h k

/-! ### Slots -/

/-- Writing a run of bytes of a slot keeps the canonical form. -/
theorem Memory.writeBytes_wf (n : Nat) (f : Nat → Byte) : ∀ (bs : List Nat) {m : Memory}, Memory.wf m = true →
    Memory.wf (bs.foldl (fun m b => Memory.write m (slotAddress n b) (f b)) m) = true
  | [], _, h => h
  | _ :: bs, _, h => Memory.writeBytes_wf n f bs (Memory.write_wf h _ _)

/-- Writing a slot keeps the canonical form. -/
theorem writeSlotImage_wf {m : Memory} (h : Memory.wf m = true) (n : Nat) (x : SlotImage) :
    Memory.wf (writeSlotImage m n x) = true :=
  Memory.writeBytes_wf n _ _ h

/-- A byte after a run of bytes was written: the byte written there, or the byte that stood there. -/
theorem Memory.read_writeBytes (n k : Nat) (f : Nat → Byte) : ∀ (bs : List Nat) {m : Memory}, Memory.wf m = true →
    Memory.read (bs.foldl (fun m b => Memory.write m (slotAddress n b) (f b)) m) k =
      if slotAddress n 0 ≤ k ∧ k - slotAddress n 0 ∈ bs then f (k - slotAddress n 0) else Memory.read m k
  | [], _, _ => by simp
  | b :: bs, m, h => by
    rw [List.foldl_cons, Memory.read_writeBytes n k f bs (Memory.write_wf h _ _)]
    by_cases hk : slotAddress n 0 ≤ k ∧ k - slotAddress n 0 ∈ bs
    · rw [if_pos hk, if_pos ⟨hk.1, List.mem_cons_of_mem _ hk.2⟩]
    · rw [if_neg hk]
      by_cases hb : slotAddress n 0 ≤ k ∧ k - slotAddress n 0 = b
      · have hkb : k = slotAddress n b := by unfold slotAddress at *; omega
        rw [if_pos ⟨hb.1, by simp [hb.2]⟩, hb.2, hkb]
        exact Memory.read_write_same _ _ h
      · have hne : k ≠ slotAddress n b := by unfold slotAddress at *; omega
        rw [if_neg (by simp only [List.mem_cons]; tauto)]
        exact Memory.read_write_other _ hne m

/-- The byte of an array after a slot was written (R46). -/
theorem read_writeSlotImage {m : Memory} (h : Memory.wf m = true) (n k : Nat) (x : SlotImage) :
    Memory.read (writeSlotImage m n x) k =
      if 64 * n ≤ k ∧ k < 64 * n + 64 then x.extractLsb' (8 * (k - 64 * n)) 8 else Memory.read m k := by
  have := Memory.read_writeBytes n k (fun b => x.extractLsb' (8 * b) 8) (List.range Config.slotBytes) h
  simp only [slotAddress, Config.slotBytes, List.mem_range, Nat.add_zero] at this
  unfold writeSlotImage
  simp only [slotAddress, Config.slotBytes] at this ⊢
  rw [this]
  by_cases hk : 64 * n ≤ k ∧ k < 64 * n + 64
  · rw [if_pos hk, if_pos ⟨hk.1, by omega⟩]
  · rw [if_neg hk, if_neg (by omega)]

/-- The slot's bytes outside the array's canonical form too: writing elsewhere leaves them. -/
theorem read_writeSlotImage_other (m : Memory) {n k : Nat} (x : SlotImage) (hk : k < 64 * n ∨ 64 * n + 64 ≤ k) :
    Memory.read (writeSlotImage m n x) k = Memory.read m k := by
  have go : ∀ (bs : List Nat) (m : Memory), (∀ b ∈ bs, b < 64) →
      Memory.read (bs.foldl (fun m b => Memory.write m (slotAddress n b) (x.extractLsb' (8 * b) 8)) m) k = Memory.read m k := by
    intro bs
    induction bs with
    | nil => intros; rfl
    | cons b bs ih =>
      intro m hb
      rw [List.foldl_cons, ih _ fun c hc => hb c (List.mem_cons_of_mem _ hc)]
      refine Memory.read_write_other _ ?_ m
      have := hb b (by simp)
      simp only [slotAddress, Config.slotBytes]
      omega
  exact go _ m fun b hb => by simpa [Config.slotBytes] using hb

/-- The bits of bytes gathered the first in the lowest place. -/
theorem getLsbD_gathered (f : Nat → Byte) (k : Nat) : ∀ (n i : Nat), k < 512 →
    ((List.range' i n).foldr (fun b (x : SlotImage) => (x <<< 8) ||| (f b).setWidth 512) 0#512).getLsbD k
      = (decide (k < 8 * n) && (f (i + k / 8)).getLsbD (k % 8))
  | 0, _, _ => by simp
  | n + 1, i, hk => by
    rw [List.range'_succ, List.foldr_cons]
    by_cases h8 : k < 8
    · have hb : (f (i + k / 8)).getLsbD (k % 8) = (f i).getLsbD k := by
        rw [Nat.div_eq_of_lt h8, Nat.mod_eq_of_lt h8, Nat.add_zero]
      have h8n : k < 8 * (n + 1) := by omega
      simp only [BitVec.getLsbD_or, BitVec.getLsbD_shiftLeft, BitVec.getLsbD_setWidth, hk, h8, hb, h8n]
      simp
    · have := getLsbD_gathered f (k - 8) n (i + 1) (by omega)
      have h1 : i + 1 + (k - 8) / 8 = i + k / 8 := by omega
      have h2 : (k - 8) % 8 = k % 8 := by omega
      have h3 : (f i).getLsbD k = false := BitVec.getLsbD_of_ge _ _ (by omega)
      rw [h1, h2] at this
      have h4 : decide (k - 8 < 8 * n) = decide (k < 8 * (n + 1)) := by
        simp only [decide_eq_decide]; omega
      simp only [BitVec.getLsbD_or, BitVec.getLsbD_shiftLeft, BitVec.getLsbD_setWidth, this, h3, h4, hk, h8]
      simp

/-- The bits of a slot as the array has them. -/
theorem getLsbD_readSlotImage (m : Memory) (n k : Nat) (hk : k < 512) :
    (readSlotImage m n).getLsbD k = (Memory.read m (64 * n + k / 8)).getLsbD (k % 8) := by
  have := getLsbD_gathered (fun b => Memory.read m (slotAddress n b)) k 64 0 hk
  unfold readSlotImage
  rw [List.range_eq_range', show Config.slotBytes = 64 from rfl, this]
  simp [slotAddress, Config.slotBytes, hk]

/-- A slot reads as it was written (R46). -/
theorem readSlotImage_writeSlotImage {m : Memory} (h : Memory.wf m = true) (n : Nat) (x : SlotImage) :
    readSlotImage (writeSlotImage m n x) n = x := by
  refine BitVec.eq_of_getLsbD_eq fun k hk => ?_
  rw [getLsbD_readSlotImage _ _ _ hk, read_writeSlotImage h, if_pos (by omega), BitVec.getLsbD_extractLsb']
  have h1 : 8 * (64 * n + k / 8 - 64 * n) + k % 8 = k := by omega
  rw [h1, decide_eq_true (Nat.mod_lt k (by decide)), Bool.true_and]

/-- Two arrays that read alike in a slot have the same slot. -/
theorem readSlotImage_congr {m m' : Memory} {n : Nat}
    (h : ∀ a, 64 * n ≤ a → a < 64 * n + 64 → Memory.read m a = Memory.read m' a) : readSlotImage m n = readSlotImage m' n := by
  refine BitVec.eq_of_getLsbD_eq fun k hk => ?_
  rw [getLsbD_readSlotImage _ _ _ hk, getLsbD_readSlotImage _ _ _ hk, h _ (by omega) (by omega)]

/-- Writing a slot leaves every other slot (R46). -/
theorem readSlotImage_writeSlotImage_other (m : Memory) {n k : Nat} (x : SlotImage) (hk : k ≠ n) :
    readSlotImage (writeSlotImage m n x) k = readSlotImage m k :=
  readSlotImage_congr fun _ h1 h2 => read_writeSlotImage_other m x (by omega)

/-- The array after reset is in canonical form. -/
theorem reset_memory_wf : Memory.wf State.reset.memory.cells = true := rfl

/-! ### The check (R47, R172) -/

/-- The content behind a check. -/
@[simp] theorem slotWithCheck_content (x : BitVec 16) (c : Content) : SlotImage.content (slotWithCheck x c) = c := by
  refine BitVec.eq_of_getLsbD_eq fun k hk => ?_
  rw [SlotImage.content, BitVec.getLsbD_extractLsb', slotWithCheck, BitVec.getLsbD_append]
  simp only [hk, Nat.zero_add, decide_true, Bool.true_and, if_true]

/-- The check before a content. -/
@[simp] theorem slotWithCheck_check (x : BitVec 16) (c : Content) : SlotImage.check (slotWithCheck x c) = x := by
  refine BitVec.eq_of_getLsbD_eq fun k hk => ?_
  rw [SlotImage.check, BitVec.getLsbD_extractLsb', slotWithCheck, BitVec.getLsbD_append, if_neg (by omega)]
  simp [hk]

/-- What the station forms gives its content back (R46). -/
@[simp] theorem slotOf_content (c : Content) : SlotImage.content (slotOf c) = c := slotWithCheck_content _ c

/-- What the station forms passes its check (R47). -/
@[simp] theorem slotOf_passes (c : Content) : SlotImage.passes (slotOf c) = true := by
  simp [SlotImage.passes, slotOf, slotWithCheck_content, slotWithCheck_check]

/-- The content of a slot that holds what the station formed. -/
theorem arrayContent_of_slotOf {m : Memory} {n : Nat} {c : Content} (h : readSlotImage m n = slotOf c) :
    arrayContent m n = some c := by
  rw [arrayContent, h, if_pos (slotOf_passes c), slotOf_content]

end Sys2Proof.Machine
end

