-- ==== Sys2Proof/Laws/Frames.lean ====
section
/-!
SUPPORT. What the shared operations, the memory controller and the Motion Controller leave alone, field by field.
-/

namespace Sys2Proof.Machine

/-- It changes link alone. -/
@[simp] theorem handOver_frame (f : Frame) (s : State) :
    (handOver f s).pending = s.pending ∧ (handOver f s).station = s.station ∧ (handOver f s).cfg = s.cfg
      ∧ (handOver f s).start = s.start ∧ (handOver f s).scanner = s.scanner ∧ (handOver f s).image = s.image
      ∧ (handOver f s).refreshPointer = s.refreshPointer ∧ (handOver f s).recallUnit = s.recallUnit
      ∧ (handOver f s).answers = s.answers ∧ (handOver f s).sequencer = s.sequencer ∧ (handOver f s).memory = s.memory
      ∧ (handOver f s).crescendo = s.crescendo ∧ (handOver f s).motion = s.motion ∧ (handOver f s).peers = s.peers
      ∧ (handOver f s).supply = s.supply ∧ (handOver f s).faults = s.faults ∧ (handOver f s).held = s.held
      ∧ (handOver f s).config = s.config ∧ (handOver f s).bases = s.bases := by
  unfold handOver
  split <;> simp

/-- It changes link alone. -/
@[simp] theorem handOverAll_frame (fs : List Frame) (s : State) :
    (handOverAll fs s).pending = s.pending ∧ (handOverAll fs s).station = s.station ∧ (handOverAll fs s).cfg = s.cfg
      ∧ (handOverAll fs s).start = s.start ∧ (handOverAll fs s).scanner = s.scanner ∧ (handOverAll fs s).image = s.image
      ∧ (handOverAll fs s).refreshPointer = s.refreshPointer ∧ (handOverAll fs s).recallUnit = s.recallUnit
      ∧ (handOverAll fs s).answers = s.answers ∧ (handOverAll fs s).sequencer = s.sequencer
      ∧ (handOverAll fs s).memory = s.memory ∧ (handOverAll fs s).crescendo = s.crescendo
      ∧ (handOverAll fs s).motion = s.motion ∧ (handOverAll fs s).peers = s.peers ∧ (handOverAll fs s).supply = s.supply
      ∧ (handOverAll fs s).faults = s.faults ∧ (handOverAll fs s).held = s.held ∧ (handOverAll fs s).config = s.config
      ∧ (handOverAll fs s).bases = s.bases := by
  unfold handOverAll
  induction fs generalizing s with
  | nil => simp
  | cons f fs ih => simpa using ih (handOver f s)

/-- It changes answers alone. -/
@[simp] theorem answer_frame (l : Lamp) (n : Nat) (s : State) :
    (answer l n s).pending = s.pending ∧ (answer l n s).station = s.station ∧ (answer l n s).cfg = s.cfg
      ∧ (answer l n s).start = s.start ∧ (answer l n s).scanner = s.scanner ∧ (answer l n s).image = s.image
      ∧ (answer l n s).refreshPointer = s.refreshPointer ∧ (answer l n s).recallUnit = s.recallUnit
      ∧ (answer l n s).sequencer = s.sequencer ∧ (answer l n s).memory = s.memory ∧ (answer l n s).crescendo = s.crescendo
      ∧ (answer l n s).motion = s.motion ∧ (answer l n s).link = s.link ∧ (answer l n s).peers = s.peers
      ∧ (answer l n s).supply = s.supply ∧ (answer l n s).faults = s.faults ∧ (answer l n s).held = s.held
      ∧ (answer l n s).config = s.config ∧ (answer l n s).bases = s.bases := by
  simp [answer]

/-- It changes answers alone. -/
@[simp] theorem refuse_frame (s : State) :
    (refuse s).pending = s.pending ∧ (refuse s).station = s.station ∧ (refuse s).cfg = s.cfg ∧ (refuse s).start = s.start
      ∧ (refuse s).scanner = s.scanner ∧ (refuse s).image = s.image ∧ (refuse s).refreshPointer = s.refreshPointer
      ∧ (refuse s).recallUnit = s.recallUnit ∧ (refuse s).sequencer = s.sequencer ∧ (refuse s).memory = s.memory
      ∧ (refuse s).crescendo = s.crescendo ∧ (refuse s).motion = s.motion ∧ (refuse s).link = s.link
      ∧ (refuse s).peers = s.peers ∧ (refuse s).supply = s.supply ∧ (refuse s).faults = s.faults ∧ (refuse s).held = s.held
      ∧ (refuse s).config = s.config ∧ (refuse s).bases = s.bases := by
  simp [refuse]

/-- It changes link, faults alone. -/
@[simp] theorem latch_frame (k : FaultKind) (s : State) :
    (latch k s).pending = s.pending ∧ (latch k s).station = s.station ∧ (latch k s).cfg = s.cfg ∧ (latch k s).start = s.start
      ∧ (latch k s).scanner = s.scanner ∧ (latch k s).image = s.image ∧ (latch k s).refreshPointer = s.refreshPointer
      ∧ (latch k s).recallUnit = s.recallUnit ∧ (latch k s).answers = s.answers ∧ (latch k s).sequencer = s.sequencer
      ∧ (latch k s).memory = s.memory ∧ (latch k s).crescendo = s.crescendo ∧ (latch k s).motion = s.motion
      ∧ (latch k s).peers = s.peers ∧ (latch k s).supply = s.supply ∧ (latch k s).held = s.held
      ∧ (latch k s).config = s.config ∧ (latch k s).bases = s.bases := by
  unfold latch
  split <;> simp

/-- It changes link, faults alone. -/
@[simp] theorem latchIf_frame (b : Bool) (k : FaultKind) (s : State) :
    (latchIf b k s).pending = s.pending ∧ (latchIf b k s).station = s.station ∧ (latchIf b k s).cfg = s.cfg
      ∧ (latchIf b k s).start = s.start ∧ (latchIf b k s).scanner = s.scanner ∧ (latchIf b k s).image = s.image
      ∧ (latchIf b k s).refreshPointer = s.refreshPointer ∧ (latchIf b k s).recallUnit = s.recallUnit
      ∧ (latchIf b k s).answers = s.answers ∧ (latchIf b k s).sequencer = s.sequencer ∧ (latchIf b k s).memory = s.memory
      ∧ (latchIf b k s).crescendo = s.crescendo ∧ (latchIf b k s).motion = s.motion ∧ (latchIf b k s).peers = s.peers
      ∧ (latchIf b k s).supply = s.supply ∧ (latchIf b k s).held = s.held ∧ (latchIf b k s).config = s.config
      ∧ (latchIf b k s).bases = s.bases := by
  unfold latchIf
  split <;> simp

/-- It changes faults alone. -/
@[simp] theorem clearFaults_frame (s : State) :
    (clearFaults s).pending = s.pending ∧ (clearFaults s).station = s.station ∧ (clearFaults s).cfg = s.cfg
      ∧ (clearFaults s).start = s.start ∧ (clearFaults s).scanner = s.scanner ∧ (clearFaults s).image = s.image
      ∧ (clearFaults s).refreshPointer = s.refreshPointer ∧ (clearFaults s).recallUnit = s.recallUnit
      ∧ (clearFaults s).answers = s.answers ∧ (clearFaults s).sequencer = s.sequencer ∧ (clearFaults s).memory = s.memory
      ∧ (clearFaults s).crescendo = s.crescendo ∧ (clearFaults s).motion = s.motion ∧ (clearFaults s).link = s.link
      ∧ (clearFaults s).peers = s.peers ∧ (clearFaults s).supply = s.supply ∧ (clearFaults s).held = s.held
      ∧ (clearFaults s).config = s.config ∧ (clearFaults s).bases = s.bases := by
  simp [clearFaults]

/-- It changes link alone. -/
@[simp] theorem noticesAtStartEnd_frame (s : State) :
    (noticesAtStartEnd s).pending = s.pending ∧ (noticesAtStartEnd s).station = s.station ∧ (noticesAtStartEnd s).cfg = s.cfg
      ∧ (noticesAtStartEnd s).start = s.start ∧ (noticesAtStartEnd s).scanner = s.scanner
      ∧ (noticesAtStartEnd s).image = s.image ∧ (noticesAtStartEnd s).refreshPointer = s.refreshPointer
      ∧ (noticesAtStartEnd s).recallUnit = s.recallUnit ∧ (noticesAtStartEnd s).answers = s.answers
      ∧ (noticesAtStartEnd s).sequencer = s.sequencer ∧ (noticesAtStartEnd s).memory = s.memory
      ∧ (noticesAtStartEnd s).crescendo = s.crescendo ∧ (noticesAtStartEnd s).motion = s.motion
      ∧ (noticesAtStartEnd s).peers = s.peers ∧ (noticesAtStartEnd s).supply = s.supply
      ∧ (noticesAtStartEnd s).faults = s.faults ∧ (noticesAtStartEnd s).held = s.held
      ∧ (noticesAtStartEnd s).config = s.config ∧ (noticesAtStartEnd s).bases = s.bases := by
  simp [noticesAtStartEnd]

/-- It changes link, faults alone. -/
@[simp] theorem noteReads_frame (slots : List Nat) (s : State) :
    (noteReads slots s).pending = s.pending ∧ (noteReads slots s).station = s.station ∧ (noteReads slots s).cfg = s.cfg
      ∧ (noteReads slots s).start = s.start ∧ (noteReads slots s).scanner = s.scanner ∧ (noteReads slots s).image = s.image
      ∧ (noteReads slots s).refreshPointer = s.refreshPointer ∧ (noteReads slots s).recallUnit = s.recallUnit
      ∧ (noteReads slots s).answers = s.answers ∧ (noteReads slots s).sequencer = s.sequencer
      ∧ (noteReads slots s).memory = s.memory ∧ (noteReads slots s).crescendo = s.crescendo
      ∧ (noteReads slots s).motion = s.motion ∧ (noteReads slots s).peers = s.peers ∧ (noteReads slots s).supply = s.supply
      ∧ (noteReads slots s).held = s.held ∧ (noteReads slots s).config = s.config ∧ (noteReads slots s).bases = s.bases := by
  simp [noteReads]

/-- It changes memory alone. -/
@[simp] theorem beginWrite_frame (s : State) :
    (beginWrite s).pending = s.pending ∧ (beginWrite s).station = s.station ∧ (beginWrite s).cfg = s.cfg
      ∧ (beginWrite s).start = s.start ∧ (beginWrite s).scanner = s.scanner ∧ (beginWrite s).image = s.image
      ∧ (beginWrite s).refreshPointer = s.refreshPointer ∧ (beginWrite s).recallUnit = s.recallUnit
      ∧ (beginWrite s).answers = s.answers ∧ (beginWrite s).sequencer = s.sequencer ∧ (beginWrite s).crescendo = s.crescendo
      ∧ (beginWrite s).motion = s.motion ∧ (beginWrite s).link = s.link ∧ (beginWrite s).peers = s.peers
      ∧ (beginWrite s).supply = s.supply ∧ (beginWrite s).faults = s.faults ∧ (beginWrite s).held = s.held
      ∧ (beginWrite s).config = s.config ∧ (beginWrite s).memory.partition = s.memory.partition
      ∧ (beginWrite s).bases = s.bases := by
  unfold beginWrite
  split <;> simp [State.bases]

/-- It changes link alone. -/
@[simp] theorem settlementReply_frame (e : WriteEntry) (b : Bool) (s : State) :
    (settlementReply e b s).pending = s.pending ∧ (settlementReply e b s).station = s.station
      ∧ (settlementReply e b s).cfg = s.cfg ∧ (settlementReply e b s).start = s.start
      ∧ (settlementReply e b s).scanner = s.scanner ∧ (settlementReply e b s).image = s.image
      ∧ (settlementReply e b s).refreshPointer = s.refreshPointer ∧ (settlementReply e b s).recallUnit = s.recallUnit
      ∧ (settlementReply e b s).answers = s.answers ∧ (settlementReply e b s).sequencer = s.sequencer
      ∧ (settlementReply e b s).memory = s.memory ∧ (settlementReply e b s).crescendo = s.crescendo
      ∧ (settlementReply e b s).motion = s.motion ∧ (settlementReply e b s).peers = s.peers
      ∧ (settlementReply e b s).supply = s.supply ∧ (settlementReply e b s).faults = s.faults
      ∧ (settlementReply e b s).held = s.held ∧ (settlementReply e b s).config = s.config
      ∧ (settlementReply e b s).bases = s.bases := by
  unfold settlementReply
  split <;> simp

/-- It changes memory, link alone. -/
@[simp] theorem settleEntry_frame (b : Bool) (s : State) :
    (settleEntry b s).pending = s.pending ∧ (settleEntry b s).station = s.station ∧ (settleEntry b s).cfg = s.cfg
      ∧ (settleEntry b s).start = s.start ∧ (settleEntry b s).scanner = s.scanner ∧ (settleEntry b s).image = s.image
      ∧ (settleEntry b s).refreshPointer = s.refreshPointer ∧ (settleEntry b s).recallUnit = s.recallUnit
      ∧ (settleEntry b s).answers = s.answers ∧ (settleEntry b s).sequencer = s.sequencer
      ∧ (settleEntry b s).crescendo = s.crescendo ∧ (settleEntry b s).motion = s.motion ∧ (settleEntry b s).peers = s.peers
      ∧ (settleEntry b s).supply = s.supply ∧ (settleEntry b s).faults = s.faults ∧ (settleEntry b s).held = s.held
      ∧ (settleEntry b s).config = s.config ∧ (settleEntry b s).memory.partition = s.memory.partition
      ∧ (settleEntry b s).bases = s.bases := by
  unfold settleEntry
  dsimp only
  split <;> simp [State.bases]

/-- It changes memory alone. -/
@[simp] theorem settleClear_frame (s : State) :
    (settleClear s).pending = s.pending ∧ (settleClear s).station = s.station ∧ (settleClear s).cfg = s.cfg
      ∧ (settleClear s).start = s.start ∧ (settleClear s).scanner = s.scanner ∧ (settleClear s).image = s.image
      ∧ (settleClear s).refreshPointer = s.refreshPointer ∧ (settleClear s).recallUnit = s.recallUnit
      ∧ (settleClear s).answers = s.answers ∧ (settleClear s).sequencer = s.sequencer
      ∧ (settleClear s).crescendo = s.crescendo ∧ (settleClear s).motion = s.motion ∧ (settleClear s).link = s.link
      ∧ (settleClear s).peers = s.peers ∧ (settleClear s).supply = s.supply ∧ (settleClear s).faults = s.faults
      ∧ (settleClear s).held = s.held ∧ (settleClear s).config = s.config
      ∧ (settleClear s).memory.partition = s.memory.partition ∧ (settleClear s).bases = s.bases := by
  simp [settleClear, State.bases, State.config]

/-- It changes memory alone. -/
@[simp] theorem settleRefresh_frame (s : State) :
    (settleRefresh s).pending = s.pending ∧ (settleRefresh s).station = s.station ∧ (settleRefresh s).cfg = s.cfg
      ∧ (settleRefresh s).start = s.start ∧ (settleRefresh s).scanner = s.scanner ∧ (settleRefresh s).image = s.image
      ∧ (settleRefresh s).refreshPointer = s.refreshPointer ∧ (settleRefresh s).recallUnit = s.recallUnit
      ∧ (settleRefresh s).answers = s.answers ∧ (settleRefresh s).sequencer = s.sequencer
      ∧ (settleRefresh s).crescendo = s.crescendo ∧ (settleRefresh s).motion = s.motion ∧ (settleRefresh s).link = s.link
      ∧ (settleRefresh s).peers = s.peers ∧ (settleRefresh s).supply = s.supply ∧ (settleRefresh s).faults = s.faults
      ∧ (settleRefresh s).held = s.held ∧ (settleRefresh s).config = s.config
      ∧ (settleRefresh s).memory.partition = s.memory.partition ∧ (settleRefresh s).bases = s.bases := by
  simp [settleRefresh, advanceRetention, State.bases, State.config]

/-- It changes memory, link alone. -/
@[simp] theorem settle_frame (k : FlightKind) (b : Bool) (s : State) :
    (settle k b s).pending = s.pending ∧ (settle k b s).station = s.station ∧ (settle k b s).cfg = s.cfg
      ∧ (settle k b s).start = s.start ∧ (settle k b s).scanner = s.scanner ∧ (settle k b s).image = s.image
      ∧ (settle k b s).refreshPointer = s.refreshPointer ∧ (settle k b s).recallUnit = s.recallUnit
      ∧ (settle k b s).answers = s.answers ∧ (settle k b s).sequencer = s.sequencer ∧ (settle k b s).crescendo = s.crescendo
      ∧ (settle k b s).motion = s.motion ∧ (settle k b s).peers = s.peers ∧ (settle k b s).supply = s.supply
      ∧ (settle k b s).faults = s.faults ∧ (settle k b s).held = s.held ∧ (settle k b s).config = s.config
      ∧ (settle k b s).memory.partition = s.memory.partition ∧ (settle k b s).bases = s.bases := by
  cases k <;> simp [settle]

/-- It changes start alone. -/
@[simp] theorem reportDrained_frame (s : State) :
    (reportDrained s).pending = s.pending ∧ (reportDrained s).station = s.station ∧ (reportDrained s).cfg = s.cfg
      ∧ (reportDrained s).scanner = s.scanner ∧ (reportDrained s).image = s.image
      ∧ (reportDrained s).refreshPointer = s.refreshPointer ∧ (reportDrained s).recallUnit = s.recallUnit
      ∧ (reportDrained s).answers = s.answers ∧ (reportDrained s).sequencer = s.sequencer
      ∧ (reportDrained s).memory = s.memory ∧ (reportDrained s).crescendo = s.crescendo ∧ (reportDrained s).motion = s.motion
      ∧ (reportDrained s).link = s.link ∧ (reportDrained s).peers = s.peers ∧ (reportDrained s).supply = s.supply
      ∧ (reportDrained s).faults = s.faults ∧ (reportDrained s).held = s.held ∧ (reportDrained s).config = s.config
      ∧ (reportDrained s).bases = s.bases := by
  unfold reportDrained
  split <;> simp

/-- It changes memory alone. -/
@[simp] theorem discardWaiting_frame (s : State) :
    (discardWaiting s).pending = s.pending ∧ (discardWaiting s).station = s.station ∧ (discardWaiting s).cfg = s.cfg
      ∧ (discardWaiting s).start = s.start ∧ (discardWaiting s).scanner = s.scanner ∧ (discardWaiting s).image = s.image
      ∧ (discardWaiting s).refreshPointer = s.refreshPointer ∧ (discardWaiting s).recallUnit = s.recallUnit
      ∧ (discardWaiting s).answers = s.answers ∧ (discardWaiting s).sequencer = s.sequencer
      ∧ (discardWaiting s).crescendo = s.crescendo ∧ (discardWaiting s).motion = s.motion ∧ (discardWaiting s).link = s.link
      ∧ (discardWaiting s).peers = s.peers ∧ (discardWaiting s).supply = s.supply ∧ (discardWaiting s).faults = s.faults
      ∧ (discardWaiting s).held = s.held ∧ (discardWaiting s).config = s.config
      ∧ (discardWaiting s).memory.partition = s.memory.partition ∧ (discardWaiting s).bases = s.bases := by
  unfold discardWaiting
  split <;> simp [State.bases]

/-- It changes memory, link, faults, start alone. -/
@[simp] theorem judgeReadback_frame (x : SlotImage) (p y : Bool) (f : Flight) (s : State) :
    (judgeReadback x p y f s).pending = s.pending ∧ (judgeReadback x p y f s).station = s.station
      ∧ (judgeReadback x p y f s).cfg = s.cfg ∧ (judgeReadback x p y f s).scanner = s.scanner
      ∧ (judgeReadback x p y f s).image = s.image ∧ (judgeReadback x p y f s).refreshPointer = s.refreshPointer
      ∧ (judgeReadback x p y f s).recallUnit = s.recallUnit ∧ (judgeReadback x p y f s).answers = s.answers
      ∧ (judgeReadback x p y f s).sequencer = s.sequencer ∧ (judgeReadback x p y f s).crescendo = s.crescendo
      ∧ (judgeReadback x p y f s).motion = s.motion ∧ (judgeReadback x p y f s).peers = s.peers
      ∧ (judgeReadback x p y f s).supply = s.supply ∧ (judgeReadback x p y f s).held = s.held
      ∧ (judgeReadback x p y f s).config = s.config ∧ (judgeReadback x p y f s).memory.partition = s.memory.partition
      ∧ (judgeReadback x p y f s).bases = s.bases := by
  simp only [judgeReadback]
  repeat' split
  all_goals simp [State.bases]

/-- It changes memory, link, faults, start alone. -/
@[simp] theorem readback_frame (found : Option SlotImage) (f : Flight) (s : State) :
    (readback found f s).pending = s.pending ∧ (readback found f s).station = s.station ∧ (readback found f s).cfg = s.cfg
      ∧ (readback found f s).scanner = s.scanner ∧ (readback found f s).image = s.image
      ∧ (readback found f s).refreshPointer = s.refreshPointer ∧ (readback found f s).recallUnit = s.recallUnit
      ∧ (readback found f s).answers = s.answers ∧ (readback found f s).sequencer = s.sequencer
      ∧ (readback found f s).crescendo = s.crescendo ∧ (readback found f s).motion = s.motion
      ∧ (readback found f s).peers = s.peers ∧ (readback found f s).supply = s.supply ∧ (readback found f s).held = s.held
      ∧ (readback found f s).config = s.config ∧ (readback found f s).memory.partition = s.memory.partition
      ∧ (readback found f s).bases = s.bases := by
  rw [readback]; simp

/-- It changes memory, link, faults alone. -/
@[simp] theorem refreshWith_frame (o : Option Content) (s : State) :
    (refreshWith o s).pending = s.pending ∧ (refreshWith o s).station = s.station ∧ (refreshWith o s).cfg = s.cfg
      ∧ (refreshWith o s).start = s.start ∧ (refreshWith o s).scanner = s.scanner ∧ (refreshWith o s).image = s.image
      ∧ (refreshWith o s).refreshPointer = s.refreshPointer ∧ (refreshWith o s).recallUnit = s.recallUnit
      ∧ (refreshWith o s).answers = s.answers ∧ (refreshWith o s).sequencer = s.sequencer
      ∧ (refreshWith o s).crescendo = s.crescendo ∧ (refreshWith o s).motion = s.motion ∧ (refreshWith o s).peers = s.peers
      ∧ (refreshWith o s).supply = s.supply ∧ (refreshWith o s).held = s.held ∧ (refreshWith o s).config = s.config
      ∧ (refreshWith o s).memory.partition = s.memory.partition ∧ (refreshWith o s).bases = s.bases := by
  cases o <;> simp [refreshWith, State.bases, advanceRetention]

/-- It changes memory, link, faults alone. -/
@[simp] theorem refreshSlot_frame (s : State) :
    (refreshSlot s).pending = s.pending ∧ (refreshSlot s).station = s.station ∧ (refreshSlot s).cfg = s.cfg
      ∧ (refreshSlot s).start = s.start ∧ (refreshSlot s).scanner = s.scanner ∧ (refreshSlot s).image = s.image
      ∧ (refreshSlot s).refreshPointer = s.refreshPointer ∧ (refreshSlot s).recallUnit = s.recallUnit
      ∧ (refreshSlot s).answers = s.answers ∧ (refreshSlot s).sequencer = s.sequencer
      ∧ (refreshSlot s).crescendo = s.crescendo ∧ (refreshSlot s).motion = s.motion ∧ (refreshSlot s).peers = s.peers
      ∧ (refreshSlot s).supply = s.supply ∧ (refreshSlot s).held = s.held ∧ (refreshSlot s).config = s.config
      ∧ (refreshSlot s).memory.partition = s.memory.partition ∧ (refreshSlot s).bases = s.bases := by
  rw [refreshSlot]; simp

/-- It changes memory alone. -/
@[simp] theorem localEvent_frame (s : State) :
    (localEvent s).pending = s.pending ∧ (localEvent s).station = s.station ∧ (localEvent s).cfg = s.cfg
      ∧ (localEvent s).start = s.start ∧ (localEvent s).scanner = s.scanner ∧ (localEvent s).image = s.image
      ∧ (localEvent s).refreshPointer = s.refreshPointer ∧ (localEvent s).recallUnit = s.recallUnit
      ∧ (localEvent s).answers = s.answers ∧ (localEvent s).sequencer = s.sequencer ∧ (localEvent s).crescendo = s.crescendo
      ∧ (localEvent s).motion = s.motion ∧ (localEvent s).link = s.link ∧ (localEvent s).peers = s.peers
      ∧ (localEvent s).supply = s.supply ∧ (localEvent s).faults = s.faults ∧ (localEvent s).held = s.held
      ∧ (localEvent s).config = s.config ∧ (localEvent s).memory.partition = s.memory.partition
      ∧ (localEvent s).bases = s.bases := by
  simp [localEvent, State.bases, State.config]

/-- It changes motion alone. -/
@[simp] theorem judgePulses_frame (s : State) :
    (judgePulses s).pending = s.pending ∧ (judgePulses s).station = s.station ∧ (judgePulses s).cfg = s.cfg
      ∧ (judgePulses s).start = s.start ∧ (judgePulses s).scanner = s.scanner ∧ (judgePulses s).image = s.image
      ∧ (judgePulses s).refreshPointer = s.refreshPointer ∧ (judgePulses s).recallUnit = s.recallUnit
      ∧ (judgePulses s).answers = s.answers ∧ (judgePulses s).sequencer = s.sequencer ∧ (judgePulses s).memory = s.memory
      ∧ (judgePulses s).crescendo = s.crescendo ∧ (judgePulses s).link = s.link ∧ (judgePulses s).peers = s.peers
      ∧ (judgePulses s).supply = s.supply ∧ (judgePulses s).faults = s.faults ∧ (judgePulses s).held = s.held
      ∧ (judgePulses s).config = s.config ∧ (judgePulses s).bases = s.bases := by
  simp [judgePulses]

/-- It changes motion alone. -/
@[simp] theorem moveRecords_frame (f : MotionRecord → MotionRecord) (s : State) :
    (moveRecords f s).pending = s.pending ∧ (moveRecords f s).station = s.station ∧ (moveRecords f s).cfg = s.cfg
      ∧ (moveRecords f s).start = s.start ∧ (moveRecords f s).scanner = s.scanner ∧ (moveRecords f s).image = s.image
      ∧ (moveRecords f s).refreshPointer = s.refreshPointer ∧ (moveRecords f s).recallUnit = s.recallUnit
      ∧ (moveRecords f s).answers = s.answers ∧ (moveRecords f s).sequencer = s.sequencer
      ∧ (moveRecords f s).memory = s.memory ∧ (moveRecords f s).crescendo = s.crescendo ∧ (moveRecords f s).link = s.link
      ∧ (moveRecords f s).peers = s.peers ∧ (moveRecords f s).supply = s.supply ∧ (moveRecords f s).faults = s.faults
      ∧ (moveRecords f s).held = s.held ∧ (moveRecords f s).config = s.config ∧ (moveRecords f s).bases = s.bases := by
  simp [moveRecords]

/-- It changes motion alone. -/
@[simp] theorem standRecordsAside_frame (s : State) :
    (standRecordsAside s).pending = s.pending ∧ (standRecordsAside s).station = s.station ∧ (standRecordsAside s).cfg = s.cfg
      ∧ (standRecordsAside s).start = s.start ∧ (standRecordsAside s).scanner = s.scanner
      ∧ (standRecordsAside s).image = s.image ∧ (standRecordsAside s).refreshPointer = s.refreshPointer
      ∧ (standRecordsAside s).recallUnit = s.recallUnit ∧ (standRecordsAside s).answers = s.answers
      ∧ (standRecordsAside s).sequencer = s.sequencer ∧ (standRecordsAside s).memory = s.memory
      ∧ (standRecordsAside s).crescendo = s.crescendo ∧ (standRecordsAside s).link = s.link
      ∧ (standRecordsAside s).peers = s.peers ∧ (standRecordsAside s).supply = s.supply
      ∧ (standRecordsAside s).faults = s.faults ∧ (standRecordsAside s).held = s.held
      ∧ (standRecordsAside s).config = s.config ∧ (standRecordsAside s).bases = s.bases := by
  simp [standRecordsAside]

/-- It changes motion alone. -/
@[simp] theorem wakeRecords_frame (s : State) :
    (wakeRecords s).pending = s.pending ∧ (wakeRecords s).station = s.station ∧ (wakeRecords s).cfg = s.cfg
      ∧ (wakeRecords s).start = s.start ∧ (wakeRecords s).scanner = s.scanner ∧ (wakeRecords s).image = s.image
      ∧ (wakeRecords s).refreshPointer = s.refreshPointer ∧ (wakeRecords s).recallUnit = s.recallUnit
      ∧ (wakeRecords s).answers = s.answers ∧ (wakeRecords s).sequencer = s.sequencer ∧ (wakeRecords s).memory = s.memory
      ∧ (wakeRecords s).crescendo = s.crescendo ∧ (wakeRecords s).link = s.link ∧ (wakeRecords s).peers = s.peers
      ∧ (wakeRecords s).supply = s.supply ∧ (wakeRecords s).faults = s.faults ∧ (wakeRecords s).held = s.held
      ∧ (wakeRecords s).config = s.config ∧ (wakeRecords s).bases = s.bases := by
  simp [wakeRecords]

/-- It changes motion alone. -/
@[simp] theorem makeRecords_frame (s : State) :
    (makeRecords s).pending = s.pending ∧ (makeRecords s).station = s.station ∧ (makeRecords s).cfg = s.cfg
      ∧ (makeRecords s).start = s.start ∧ (makeRecords s).scanner = s.scanner ∧ (makeRecords s).image = s.image
      ∧ (makeRecords s).refreshPointer = s.refreshPointer ∧ (makeRecords s).recallUnit = s.recallUnit
      ∧ (makeRecords s).answers = s.answers ∧ (makeRecords s).sequencer = s.sequencer ∧ (makeRecords s).memory = s.memory
      ∧ (makeRecords s).crescendo = s.crescendo ∧ (makeRecords s).link = s.link ∧ (makeRecords s).peers = s.peers
      ∧ (makeRecords s).supply = s.supply ∧ (makeRecords s).faults = s.faults ∧ (makeRecords s).held = s.held
      ∧ (makeRecords s).config = s.config ∧ (makeRecords s).bases = s.bases := by
  simp [makeRecords]

/-- It changes start alone. -/
@[simp] theorem reportNoCoil_frame (s : State) :
    (reportNoCoil s).pending = s.pending ∧ (reportNoCoil s).station = s.station ∧ (reportNoCoil s).cfg = s.cfg
      ∧ (reportNoCoil s).scanner = s.scanner ∧ (reportNoCoil s).image = s.image
      ∧ (reportNoCoil s).refreshPointer = s.refreshPointer ∧ (reportNoCoil s).recallUnit = s.recallUnit
      ∧ (reportNoCoil s).answers = s.answers ∧ (reportNoCoil s).sequencer = s.sequencer ∧ (reportNoCoil s).memory = s.memory
      ∧ (reportNoCoil s).crescendo = s.crescendo ∧ (reportNoCoil s).motion = s.motion ∧ (reportNoCoil s).link = s.link
      ∧ (reportNoCoil s).peers = s.peers ∧ (reportNoCoil s).supply = s.supply ∧ (reportNoCoil s).faults = s.faults
      ∧ (reportNoCoil s).held = s.held ∧ (reportNoCoil s).config = s.config ∧ (reportNoCoil s).bases = s.bases := by
  unfold reportNoCoil
  split <;> simp

end Sys2Proof.Machine
end

