-- ==== Sys2Proof/Laws/BlockFrames.lean ====
section
/-!
SUPPORT. What the blocks' operations leave alone, field by field.
-/

namespace Sys2Proof.Machine

/-- A request that was taken changes the memory alone, its partition staying (R57). -/
theorem writeRequest_frame {r : List WriteEntry} {s t : State} (h : writeRequest r s = some t) :
    t.pending = s.pending ∧ t.station = s.station ∧ t.cfg = s.cfg ∧ t.start = s.start ∧ t.scanner = s.scanner
      ∧ t.image = s.image ∧ t.refreshPointer = s.refreshPointer ∧ t.recallUnit = s.recallUnit ∧ t.answers = s.answers
      ∧ t.sequencer = s.sequencer ∧ t.crescendo = s.crescendo ∧ t.motion = s.motion ∧ t.link = s.link ∧ t.peers = s.peers
      ∧ t.supply = s.supply ∧ t.faults = s.faults ∧ t.held = s.held ∧ t.config = s.config
      ∧ t.memory.partition = s.memory.partition ∧ t.bases = s.bases := by
  unfold writeRequest at h
  split at h
  · cases h
    simp [State.bases]
  · cases h

/-- It changes image, link alone. -/
@[simp] theorem changeDivisions_frame (cs : List (Nat × StopSet)) (s : State) :
    (cs.foldl changeDivision s).pending = s.pending ∧ (cs.foldl changeDivision s).station = s.station
      ∧ (cs.foldl changeDivision s).cfg = s.cfg ∧ (cs.foldl changeDivision s).start = s.start
      ∧ (cs.foldl changeDivision s).scanner = s.scanner ∧ (cs.foldl changeDivision s).refreshPointer = s.refreshPointer
      ∧ (cs.foldl changeDivision s).recallUnit = s.recallUnit ∧ (cs.foldl changeDivision s).answers = s.answers
      ∧ (cs.foldl changeDivision s).sequencer = s.sequencer ∧ (cs.foldl changeDivision s).memory = s.memory
      ∧ (cs.foldl changeDivision s).crescendo = s.crescendo ∧ (cs.foldl changeDivision s).motion = s.motion
      ∧ (cs.foldl changeDivision s).peers = s.peers ∧ (cs.foldl changeDivision s).supply = s.supply
      ∧ (cs.foldl changeDivision s).faults = s.faults ∧ (cs.foldl changeDivision s).held = s.held
      ∧ (cs.foldl changeDivision s).config = s.config ∧ (cs.foldl changeDivision s).bases = s.bases := by
  induction cs generalizing s with
  | nil => simp
  | cons c cs ih => simpa [changeDivision] using ih (changeDivision s c)

/-- It changes motion alone. -/
@[simp] theorem imageChanged_frame (ds : List Nat) (s : State) :
    (imageChanged ds s).pending = s.pending ∧ (imageChanged ds s).station = s.station ∧ (imageChanged ds s).cfg = s.cfg
      ∧ (imageChanged ds s).start = s.start ∧ (imageChanged ds s).scanner = s.scanner ∧ (imageChanged ds s).image = s.image
      ∧ (imageChanged ds s).refreshPointer = s.refreshPointer ∧ (imageChanged ds s).recallUnit = s.recallUnit
      ∧ (imageChanged ds s).answers = s.answers ∧ (imageChanged ds s).sequencer = s.sequencer
      ∧ (imageChanged ds s).memory = s.memory ∧ (imageChanged ds s).crescendo = s.crescendo
      ∧ (imageChanged ds s).link = s.link ∧ (imageChanged ds s).peers = s.peers ∧ (imageChanged ds s).supply = s.supply
      ∧ (imageChanged ds s).faults = s.faults ∧ (imageChanged ds s).held = s.held ∧ (imageChanged ds s).config = s.config
      ∧ (imageChanged ds s).bases = s.bases := by
  simp [imageChanged]

/-- It changes image, link, motion alone. -/
@[simp] theorem localChange_frame (cs : List (Nat × StopSet)) (s : State) :
    (localChange cs s).pending = s.pending ∧ (localChange cs s).station = s.station ∧ (localChange cs s).cfg = s.cfg
      ∧ (localChange cs s).start = s.start ∧ (localChange cs s).scanner = s.scanner
      ∧ (localChange cs s).refreshPointer = s.refreshPointer ∧ (localChange cs s).recallUnit = s.recallUnit
      ∧ (localChange cs s).answers = s.answers ∧ (localChange cs s).sequencer = s.sequencer
      ∧ (localChange cs s).memory = s.memory ∧ (localChange cs s).crescendo = s.crescendo ∧ (localChange cs s).peers = s.peers
      ∧ (localChange cs s).supply = s.supply ∧ (localChange cs s).faults = s.faults ∧ (localChange cs s).held = s.held
      ∧ (localChange cs s).config = s.config ∧ (localChange cs s).bases = s.bases := by
  unfold localChange
  split <;> simp

/-- It changes image, motion alone. -/
@[simp] theorem mergeRegistration_frame (d : Nat) (a : Stamp) (x : StopSet) (s : State) :
    (mergeRegistration d a x s).pending = s.pending ∧ (mergeRegistration d a x s).station = s.station
      ∧ (mergeRegistration d a x s).cfg = s.cfg ∧ (mergeRegistration d a x s).start = s.start
      ∧ (mergeRegistration d a x s).scanner = s.scanner ∧ (mergeRegistration d a x s).refreshPointer = s.refreshPointer
      ∧ (mergeRegistration d a x s).recallUnit = s.recallUnit ∧ (mergeRegistration d a x s).answers = s.answers
      ∧ (mergeRegistration d a x s).sequencer = s.sequencer ∧ (mergeRegistration d a x s).memory = s.memory
      ∧ (mergeRegistration d a x s).crescendo = s.crescendo ∧ (mergeRegistration d a x s).link = s.link
      ∧ (mergeRegistration d a x s).peers = s.peers ∧ (mergeRegistration d a x s).supply = s.supply
      ∧ (mergeRegistration d a x s).faults = s.faults ∧ (mergeRegistration d a x s).held = s.held
      ∧ (mergeRegistration d a x s).config = s.config ∧ (mergeRegistration d a x s).bases = s.bases := by
  unfold mergeRegistration
  split <;> simp

/-- It changes link, refreshPointer alone. -/
@[simp] theorem refreshNext_frame (s : State) :
    (refreshNext s).pending = s.pending ∧ (refreshNext s).station = s.station ∧ (refreshNext s).cfg = s.cfg
      ∧ (refreshNext s).start = s.start ∧ (refreshNext s).scanner = s.scanner ∧ (refreshNext s).image = s.image
      ∧ (refreshNext s).recallUnit = s.recallUnit ∧ (refreshNext s).answers = s.answers
      ∧ (refreshNext s).sequencer = s.sequencer ∧ (refreshNext s).memory = s.memory ∧ (refreshNext s).crescendo = s.crescendo
      ∧ (refreshNext s).motion = s.motion ∧ (refreshNext s).peers = s.peers ∧ (refreshNext s).supply = s.supply
      ∧ (refreshNext s).faults = s.faults ∧ (refreshNext s).held = s.held ∧ (refreshNext s).config = s.config
      ∧ (refreshNext s).bases = s.bases := by
  simp [refreshNext]

/-- It changes link alone. -/
@[simp] theorem refreshBurst_frame (s : State) :
    (refreshBurst s).pending = s.pending ∧ (refreshBurst s).station = s.station ∧ (refreshBurst s).cfg = s.cfg
      ∧ (refreshBurst s).start = s.start ∧ (refreshBurst s).scanner = s.scanner ∧ (refreshBurst s).image = s.image
      ∧ (refreshBurst s).refreshPointer = s.refreshPointer ∧ (refreshBurst s).recallUnit = s.recallUnit
      ∧ (refreshBurst s).answers = s.answers ∧ (refreshBurst s).sequencer = s.sequencer ∧ (refreshBurst s).memory = s.memory
      ∧ (refreshBurst s).crescendo = s.crescendo ∧ (refreshBurst s).motion = s.motion ∧ (refreshBurst s).peers = s.peers
      ∧ (refreshBurst s).supply = s.supply ∧ (refreshBurst s).faults = s.faults ∧ (refreshBurst s).held = s.held
      ∧ (refreshBurst s).config = s.config ∧ (refreshBurst s).bases = s.bases := by
  simp [refreshBurst]

/-- It changes image, link, motion alone. -/
@[simp] theorem handMotion_frame (d i : Nat) (v : Bool) (s : State) :
    (handMotion d i v s).pending = s.pending ∧ (handMotion d i v s).station = s.station ∧ (handMotion d i v s).cfg = s.cfg
      ∧ (handMotion d i v s).start = s.start ∧ (handMotion d i v s).scanner = s.scanner
      ∧ (handMotion d i v s).refreshPointer = s.refreshPointer ∧ (handMotion d i v s).recallUnit = s.recallUnit
      ∧ (handMotion d i v s).answers = s.answers ∧ (handMotion d i v s).sequencer = s.sequencer
      ∧ (handMotion d i v s).memory = s.memory ∧ (handMotion d i v s).crescendo = s.crescendo
      ∧ (handMotion d i v s).peers = s.peers ∧ (handMotion d i v s).supply = s.supply ∧ (handMotion d i v s).faults = s.faults
      ∧ (handMotion d i v s).held = s.held ∧ (handMotion d i v s).config = s.config ∧ (handMotion d i v s).bases = s.bases := by
  simp [handMotion]

/-- It changes image, link, motion alone. -/
@[simp] theorem senseChange_frame (d i : Nat) (v : Bool) (s : State) :
    (senseChange d i v s).pending = s.pending ∧ (senseChange d i v s).station = s.station ∧ (senseChange d i v s).cfg = s.cfg
      ∧ (senseChange d i v s).start = s.start ∧ (senseChange d i v s).scanner = s.scanner
      ∧ (senseChange d i v s).refreshPointer = s.refreshPointer ∧ (senseChange d i v s).recallUnit = s.recallUnit
      ∧ (senseChange d i v s).answers = s.answers ∧ (senseChange d i v s).sequencer = s.sequencer
      ∧ (senseChange d i v s).memory = s.memory ∧ (senseChange d i v s).crescendo = s.crescendo
      ∧ (senseChange d i v s).peers = s.peers ∧ (senseChange d i v s).supply = s.supply
      ∧ (senseChange d i v s).faults = s.faults ∧ (senseChange d i v s).held = s.held
      ∧ (senseChange d i v s).config = s.config ∧ (senseChange d i v s).bases = s.bases := by
  simp only [senseChange]
  repeat' split
  all_goals simp

/-- It changes crescendo alone. -/
@[simp] theorem formEffective_frame (s : State) :
    (formEffective s).pending = s.pending ∧ (formEffective s).station = s.station ∧ (formEffective s).cfg = s.cfg
      ∧ (formEffective s).start = s.start ∧ (formEffective s).scanner = s.scanner ∧ (formEffective s).image = s.image
      ∧ (formEffective s).refreshPointer = s.refreshPointer ∧ (formEffective s).recallUnit = s.recallUnit
      ∧ (formEffective s).answers = s.answers ∧ (formEffective s).sequencer = s.sequencer
      ∧ (formEffective s).memory = s.memory ∧ (formEffective s).motion = s.motion ∧ (formEffective s).link = s.link
      ∧ (formEffective s).peers = s.peers ∧ (formEffective s).supply = s.supply ∧ (formEffective s).faults = s.faults
      ∧ (formEffective s).held = s.held ∧ (formEffective s).config = s.config ∧ (formEffective s).bases = s.bases := by
  unfold formEffective
  split <;> simp

/-- It changes link alone. -/
@[simp] theorem announceCrescendo_frame (s : State) :
    (announceCrescendo s).pending = s.pending ∧ (announceCrescendo s).station = s.station ∧ (announceCrescendo s).cfg = s.cfg
      ∧ (announceCrescendo s).start = s.start ∧ (announceCrescendo s).scanner = s.scanner
      ∧ (announceCrescendo s).image = s.image ∧ (announceCrescendo s).refreshPointer = s.refreshPointer
      ∧ (announceCrescendo s).recallUnit = s.recallUnit ∧ (announceCrescendo s).answers = s.answers
      ∧ (announceCrescendo s).sequencer = s.sequencer ∧ (announceCrescendo s).memory = s.memory
      ∧ (announceCrescendo s).crescendo = s.crescendo ∧ (announceCrescendo s).motion = s.motion
      ∧ (announceCrescendo s).peers = s.peers ∧ (announceCrescendo s).supply = s.supply
      ∧ (announceCrescendo s).faults = s.faults ∧ (announceCrescendo s).held = s.held
      ∧ (announceCrescendo s).config = s.config ∧ (announceCrescendo s).bases = s.bases := by
  simp [announceCrescendo]

/-- It changes link alone. -/
@[simp] theorem handRepeat_frame (s : State) :
    (handRepeat s).pending = s.pending ∧ (handRepeat s).station = s.station ∧ (handRepeat s).cfg = s.cfg
      ∧ (handRepeat s).start = s.start ∧ (handRepeat s).scanner = s.scanner ∧ (handRepeat s).image = s.image
      ∧ (handRepeat s).refreshPointer = s.refreshPointer ∧ (handRepeat s).recallUnit = s.recallUnit
      ∧ (handRepeat s).answers = s.answers ∧ (handRepeat s).sequencer = s.sequencer ∧ (handRepeat s).memory = s.memory
      ∧ (handRepeat s).crescendo = s.crescendo ∧ (handRepeat s).motion = s.motion ∧ (handRepeat s).peers = s.peers
      ∧ (handRepeat s).supply = s.supply ∧ (handRepeat s).faults = s.faults ∧ (handRepeat s).held = s.held
      ∧ (handRepeat s).config = s.config ∧ (handRepeat s).bases = s.bases := by
  simp [handRepeat]

/-- It changes crescendo, link, faults alone. -/
@[simp] theorem formAdditions_frame (old : CrescendoUnit) (s : State) :
    (formAdditions old s).pending = s.pending ∧ (formAdditions old s).station = s.station ∧ (formAdditions old s).cfg = s.cfg
      ∧ (formAdditions old s).start = s.start ∧ (formAdditions old s).scanner = s.scanner
      ∧ (formAdditions old s).image = s.image ∧ (formAdditions old s).refreshPointer = s.refreshPointer
      ∧ (formAdditions old s).recallUnit = s.recallUnit ∧ (formAdditions old s).answers = s.answers
      ∧ (formAdditions old s).sequencer = s.sequencer ∧ (formAdditions old s).memory = s.memory
      ∧ (formAdditions old s).motion = s.motion ∧ (formAdditions old s).peers = s.peers
      ∧ (formAdditions old s).supply = s.supply ∧ (formAdditions old s).held = s.held
      ∧ (formAdditions old s).config = s.config ∧ (formAdditions old s).bases = s.bases := by
  simp only [formAdditions]
  split <;> simp

/-- It changes crescendo, link, faults alone. -/
@[simp] theorem evaluateStage_frame (s : State) :
    (evaluateStage s).pending = s.pending ∧ (evaluateStage s).station = s.station ∧ (evaluateStage s).cfg = s.cfg
      ∧ (evaluateStage s).start = s.start ∧ (evaluateStage s).scanner = s.scanner ∧ (evaluateStage s).image = s.image
      ∧ (evaluateStage s).refreshPointer = s.refreshPointer ∧ (evaluateStage s).recallUnit = s.recallUnit
      ∧ (evaluateStage s).answers = s.answers ∧ (evaluateStage s).sequencer = s.sequencer
      ∧ (evaluateStage s).memory = s.memory ∧ (evaluateStage s).motion = s.motion ∧ (evaluateStage s).peers = s.peers
      ∧ (evaluateStage s).supply = s.supply ∧ (evaluateStage s).held = s.held ∧ (evaluateStage s).config = s.config
      ∧ (evaluateStage s).bases = s.bases := by
  simp only [evaluateStage]
  repeat' split
  all_goals simp

/-- It changes crescendo, link, faults alone. -/
@[simp] theorem wakeCrescendo_frame (s : State) :
    (wakeCrescendo s).pending = s.pending ∧ (wakeCrescendo s).station = s.station ∧ (wakeCrescendo s).cfg = s.cfg
      ∧ (wakeCrescendo s).start = s.start ∧ (wakeCrescendo s).scanner = s.scanner ∧ (wakeCrescendo s).image = s.image
      ∧ (wakeCrescendo s).refreshPointer = s.refreshPointer ∧ (wakeCrescendo s).recallUnit = s.recallUnit
      ∧ (wakeCrescendo s).answers = s.answers ∧ (wakeCrescendo s).sequencer = s.sequencer
      ∧ (wakeCrescendo s).memory = s.memory ∧ (wakeCrescendo s).motion = s.motion ∧ (wakeCrescendo s).peers = s.peers
      ∧ (wakeCrescendo s).supply = s.supply ∧ (wakeCrescendo s).held = s.held ∧ (wakeCrescendo s).config = s.config
      ∧ (wakeCrescendo s).bases = s.bases := by
  simp [wakeCrescendo]

/-- It changes crescendo alone. -/
@[simp] theorem takeReference_frame (s : State) :
    (takeReference s).pending = s.pending ∧ (takeReference s).station = s.station ∧ (takeReference s).cfg = s.cfg
      ∧ (takeReference s).start = s.start ∧ (takeReference s).scanner = s.scanner ∧ (takeReference s).image = s.image
      ∧ (takeReference s).refreshPointer = s.refreshPointer ∧ (takeReference s).recallUnit = s.recallUnit
      ∧ (takeReference s).answers = s.answers ∧ (takeReference s).sequencer = s.sequencer
      ∧ (takeReference s).memory = s.memory ∧ (takeReference s).motion = s.motion ∧ (takeReference s).link = s.link
      ∧ (takeReference s).peers = s.peers ∧ (takeReference s).supply = s.supply ∧ (takeReference s).faults = s.faults
      ∧ (takeReference s).held = s.held ∧ (takeReference s).config = s.config ∧ (takeReference s).bases = s.bases := by
  simp [takeReference]

/-- It changes crescendo, link, faults alone. -/
@[simp] theorem phaseError_frame (s : State) :
    (phaseError s).pending = s.pending ∧ (phaseError s).station = s.station ∧ (phaseError s).cfg = s.cfg
      ∧ (phaseError s).start = s.start ∧ (phaseError s).scanner = s.scanner ∧ (phaseError s).image = s.image
      ∧ (phaseError s).refreshPointer = s.refreshPointer ∧ (phaseError s).recallUnit = s.recallUnit
      ∧ (phaseError s).answers = s.answers ∧ (phaseError s).sequencer = s.sequencer ∧ (phaseError s).memory = s.memory
      ∧ (phaseError s).motion = s.motion ∧ (phaseError s).peers = s.peers ∧ (phaseError s).supply = s.supply
      ∧ (phaseError s).held = s.held ∧ (phaseError s).config = s.config ∧ (phaseError s).bases = s.bases := by
  simp only [phaseError]
  repeat' split
  all_goals simp

/-- It changes crescendo, link, faults alone. -/
@[simp] theorem moveCount_frame (p : Nat) (s : State) :
    (moveCount p s).pending = s.pending ∧ (moveCount p s).station = s.station ∧ (moveCount p s).cfg = s.cfg
      ∧ (moveCount p s).start = s.start ∧ (moveCount p s).scanner = s.scanner ∧ (moveCount p s).image = s.image
      ∧ (moveCount p s).refreshPointer = s.refreshPointer ∧ (moveCount p s).recallUnit = s.recallUnit
      ∧ (moveCount p s).answers = s.answers ∧ (moveCount p s).sequencer = s.sequencer ∧ (moveCount p s).memory = s.memory
      ∧ (moveCount p s).motion = s.motion ∧ (moveCount p s).peers = s.peers ∧ (moveCount p s).supply = s.supply
      ∧ (moveCount p s).held = s.held ∧ (moveCount p s).config = s.config ∧ (moveCount p s).bases = s.bases := by
  simp only [moveCount]
  split <;> simp

/-- It changes crescendo, link, faults alone. -/
@[simp] theorem judgePair_frame (a b : Bool) (s : State) :
    (judgePair a b s).pending = s.pending ∧ (judgePair a b s).station = s.station ∧ (judgePair a b s).cfg = s.cfg
      ∧ (judgePair a b s).start = s.start ∧ (judgePair a b s).scanner = s.scanner ∧ (judgePair a b s).image = s.image
      ∧ (judgePair a b s).refreshPointer = s.refreshPointer ∧ (judgePair a b s).recallUnit = s.recallUnit
      ∧ (judgePair a b s).answers = s.answers ∧ (judgePair a b s).sequencer = s.sequencer
      ∧ (judgePair a b s).memory = s.memory ∧ (judgePair a b s).motion = s.motion ∧ (judgePair a b s).peers = s.peers
      ∧ (judgePair a b s).supply = s.supply ∧ (judgePair a b s).held = s.held ∧ (judgePair a b s).config = s.config
      ∧ (judgePair a b s).bases = s.bases := by
  simp only [judgePair]
  repeat' split
  all_goals simp

/-- It changes crescendo, link, faults alone. -/
@[simp] theorem indexEdge_frame (s : State) :
    (indexEdge s).pending = s.pending ∧ (indexEdge s).station = s.station ∧ (indexEdge s).cfg = s.cfg
      ∧ (indexEdge s).start = s.start ∧ (indexEdge s).scanner = s.scanner ∧ (indexEdge s).image = s.image
      ∧ (indexEdge s).refreshPointer = s.refreshPointer ∧ (indexEdge s).recallUnit = s.recallUnit
      ∧ (indexEdge s).answers = s.answers ∧ (indexEdge s).sequencer = s.sequencer ∧ (indexEdge s).memory = s.memory
      ∧ (indexEdge s).motion = s.motion ∧ (indexEdge s).peers = s.peers ∧ (indexEdge s).supply = s.supply
      ∧ (indexEdge s).held = s.held ∧ (indexEdge s).config = s.config ∧ (indexEdge s).bases = s.bases := by
  simp only [indexEdge]
  repeat' split
  all_goals simp

/-- It changes crescendo, link, faults alone. -/
@[simp] theorem pressProgram_frame (s : State) :
    (pressProgram s).pending = s.pending ∧ (pressProgram s).station = s.station ∧ (pressProgram s).cfg = s.cfg
      ∧ (pressProgram s).start = s.start ∧ (pressProgram s).scanner = s.scanner ∧ (pressProgram s).image = s.image
      ∧ (pressProgram s).refreshPointer = s.refreshPointer ∧ (pressProgram s).recallUnit = s.recallUnit
      ∧ (pressProgram s).answers = s.answers ∧ (pressProgram s).sequencer = s.sequencer ∧ (pressProgram s).memory = s.memory
      ∧ (pressProgram s).motion = s.motion ∧ (pressProgram s).peers = s.peers ∧ (pressProgram s).supply = s.supply
      ∧ (pressProgram s).held = s.held ∧ (pressProgram s).config = s.config ∧ (pressProgram s).bases = s.bases := by
  unfold pressProgram
  split <;> simp

/-- It changes crescendo, link, faults alone. -/
@[simp] theorem setTutti_frame (v : Bool) (s : State) :
    (setTutti v s).pending = s.pending ∧ (setTutti v s).station = s.station ∧ (setTutti v s).cfg = s.cfg
      ∧ (setTutti v s).start = s.start ∧ (setTutti v s).scanner = s.scanner ∧ (setTutti v s).image = s.image
      ∧ (setTutti v s).refreshPointer = s.refreshPointer ∧ (setTutti v s).recallUnit = s.recallUnit
      ∧ (setTutti v s).answers = s.answers ∧ (setTutti v s).sequencer = s.sequencer ∧ (setTutti v s).memory = s.memory
      ∧ (setTutti v s).motion = s.motion ∧ (setTutti v s).peers = s.peers ∧ (setTutti v s).supply = s.supply
      ∧ (setTutti v s).held = s.held ∧ (setTutti v s).config = s.config ∧ (setTutti v s).bases = s.bases := by
  unfold setTutti
  split <;> simp

/-- It changes crescendo, link, faults, memory, answers alone. -/
@[simp] theorem captureStage_frame (s : State) :
    (captureStage s).pending = s.pending ∧ (captureStage s).station = s.station ∧ (captureStage s).cfg = s.cfg
      ∧ (captureStage s).start = s.start ∧ (captureStage s).scanner = s.scanner ∧ (captureStage s).image = s.image
      ∧ (captureStage s).refreshPointer = s.refreshPointer ∧ (captureStage s).recallUnit = s.recallUnit
      ∧ (captureStage s).sequencer = s.sequencer ∧ (captureStage s).motion = s.motion ∧ (captureStage s).peers = s.peers
      ∧ (captureStage s).supply = s.supply ∧ (captureStage s).held = s.held ∧ (captureStage s).config = s.config
      ∧ (captureStage s).memory.partition = s.memory.partition ∧ (captureStage s).bases = s.bases := by
  simp only [captureStage]
  split
  · simp
  · split
    · rename_i h
      simp [writeRequest_frame h]
    · simp

/-- It changes crescendo, link, faults, memory, answers alone. -/
@[simp] theorem pressCrescendoSet_frame (s : State) :
    (pressCrescendoSet s).pending = s.pending ∧ (pressCrescendoSet s).station = s.station ∧ (pressCrescendoSet s).cfg = s.cfg
      ∧ (pressCrescendoSet s).start = s.start ∧ (pressCrescendoSet s).scanner = s.scanner
      ∧ (pressCrescendoSet s).image = s.image ∧ (pressCrescendoSet s).refreshPointer = s.refreshPointer
      ∧ (pressCrescendoSet s).recallUnit = s.recallUnit ∧ (pressCrescendoSet s).sequencer = s.sequencer
      ∧ (pressCrescendoSet s).motion = s.motion ∧ (pressCrescendoSet s).peers = s.peers
      ∧ (pressCrescendoSet s).supply = s.supply ∧ (pressCrescendoSet s).held = s.held
      ∧ (pressCrescendoSet s).config = s.config ∧ (pressCrescendoSet s).memory.partition = s.memory.partition
      ∧ (pressCrescendoSet s).bases = s.bases := by
  unfold pressCrescendoSet
  split <;> simp

/-- It changes crescendo, link, faults, memory, answers alone. -/
@[simp] theorem captureTutti_frame (s : State) :
    (captureTutti s).pending = s.pending ∧ (captureTutti s).station = s.station ∧ (captureTutti s).cfg = s.cfg
      ∧ (captureTutti s).start = s.start ∧ (captureTutti s).scanner = s.scanner ∧ (captureTutti s).image = s.image
      ∧ (captureTutti s).refreshPointer = s.refreshPointer ∧ (captureTutti s).recallUnit = s.recallUnit
      ∧ (captureTutti s).sequencer = s.sequencer ∧ (captureTutti s).motion = s.motion ∧ (captureTutti s).peers = s.peers
      ∧ (captureTutti s).supply = s.supply ∧ (captureTutti s).held = s.held ∧ (captureTutti s).config = s.config
      ∧ (captureTutti s).memory.partition = s.memory.partition ∧ (captureTutti s).bases = s.bases := by
  simp only [captureTutti]
  split
  · simp
  · split
    · rename_i h
      split <;> simp [writeRequest_frame h]
    · simp

/-- It changes crescendo, link, faults, memory, answers alone. -/
@[simp] theorem pressTutti_frame (s : State) :
    (pressTutti s).pending = s.pending ∧ (pressTutti s).station = s.station ∧ (pressTutti s).cfg = s.cfg
      ∧ (pressTutti s).start = s.start ∧ (pressTutti s).scanner = s.scanner ∧ (pressTutti s).image = s.image
      ∧ (pressTutti s).refreshPointer = s.refreshPointer ∧ (pressTutti s).recallUnit = s.recallUnit
      ∧ (pressTutti s).sequencer = s.sequencer ∧ (pressTutti s).motion = s.motion ∧ (pressTutti s).peers = s.peers
      ∧ (pressTutti s).supply = s.supply ∧ (pressTutti s).held = s.held ∧ (pressTutti s).config = s.config
      ∧ (pressTutti s).memory.partition = s.memory.partition ∧ (pressTutti s).bases = s.bases := by
  simp only [pressTutti]
  repeat' split
  all_goals simp

/-- It changes crescendo, link alone. -/
@[simp] theorem countRepeat_frame (s : State) :
    (countRepeat s).pending = s.pending ∧ (countRepeat s).station = s.station ∧ (countRepeat s).cfg = s.cfg
      ∧ (countRepeat s).start = s.start ∧ (countRepeat s).scanner = s.scanner ∧ (countRepeat s).image = s.image
      ∧ (countRepeat s).refreshPointer = s.refreshPointer ∧ (countRepeat s).recallUnit = s.recallUnit
      ∧ (countRepeat s).answers = s.answers ∧ (countRepeat s).sequencer = s.sequencer ∧ (countRepeat s).memory = s.memory
      ∧ (countRepeat s).motion = s.motion ∧ (countRepeat s).peers = s.peers ∧ (countRepeat s).supply = s.supply
      ∧ (countRepeat s).faults = s.faults ∧ (countRepeat s).held = s.held ∧ (countRepeat s).config = s.config
      ∧ (countRepeat s).bases = s.bases := by
  unfold countRepeat
  split <;> simp

/-- It changes recallUnit alone. -/
@[simp] theorem setLive_frame (p : Piston) (r : Record) (s : State) :
    (setLive p r s).pending = s.pending ∧ (setLive p r s).station = s.station ∧ (setLive p r s).cfg = s.cfg
      ∧ (setLive p r s).start = s.start ∧ (setLive p r s).scanner = s.scanner ∧ (setLive p r s).image = s.image
      ∧ (setLive p r s).refreshPointer = s.refreshPointer ∧ (setLive p r s).answers = s.answers
      ∧ (setLive p r s).sequencer = s.sequencer ∧ (setLive p r s).memory = s.memory ∧ (setLive p r s).crescendo = s.crescendo
      ∧ (setLive p r s).motion = s.motion ∧ (setLive p r s).link = s.link ∧ (setLive p r s).peers = s.peers
      ∧ (setLive p r s).supply = s.supply ∧ (setLive p r s).faults = s.faults ∧ (setLive p r s).held = s.held
      ∧ (setLive p r s).config = s.config ∧ (setLive p r s).bases = s.bases := by
  simp [setLive]

/-- It changes recallUnit alone. -/
@[simp] theorem clearLive_frame (s : State) :
    (clearLive s).pending = s.pending ∧ (clearLive s).station = s.station ∧ (clearLive s).cfg = s.cfg
      ∧ (clearLive s).start = s.start ∧ (clearLive s).scanner = s.scanner ∧ (clearLive s).image = s.image
      ∧ (clearLive s).refreshPointer = s.refreshPointer ∧ (clearLive s).answers = s.answers
      ∧ (clearLive s).sequencer = s.sequencer ∧ (clearLive s).memory = s.memory ∧ (clearLive s).crescendo = s.crescendo
      ∧ (clearLive s).motion = s.motion ∧ (clearLive s).link = s.link ∧ (clearLive s).peers = s.peers
      ∧ (clearLive s).supply = s.supply ∧ (clearLive s).faults = s.faults ∧ (clearLive s).held = s.held
      ∧ (clearLive s).config = s.config ∧ (clearLive s).bases = s.bases := by
  simp [clearLive]

/-- It changes recallUnit alone. -/
@[simp] theorem setCancelCount_frame (d n : Nat) (s : State) :
    (setCancelCount d n s).pending = s.pending ∧ (setCancelCount d n s).station = s.station
      ∧ (setCancelCount d n s).cfg = s.cfg ∧ (setCancelCount d n s).start = s.start
      ∧ (setCancelCount d n s).scanner = s.scanner ∧ (setCancelCount d n s).image = s.image
      ∧ (setCancelCount d n s).refreshPointer = s.refreshPointer ∧ (setCancelCount d n s).answers = s.answers
      ∧ (setCancelCount d n s).sequencer = s.sequencer ∧ (setCancelCount d n s).memory = s.memory
      ∧ (setCancelCount d n s).crescendo = s.crescendo ∧ (setCancelCount d n s).motion = s.motion
      ∧ (setCancelCount d n s).link = s.link ∧ (setCancelCount d n s).peers = s.peers
      ∧ (setCancelCount d n s).supply = s.supply ∧ (setCancelCount d n s).faults = s.faults
      ∧ (setCancelCount d n s).held = s.held ∧ (setCancelCount d n s).config = s.config
      ∧ (setCancelCount d n s).bases = s.bases := by
  simp [setCancelCount]

/-- It changes recallUnit alone. -/
@[simp] theorem setSetCount_frame (n : Nat) (s : State) :
    (setSetCount n s).pending = s.pending ∧ (setSetCount n s).station = s.station ∧ (setSetCount n s).cfg = s.cfg
      ∧ (setSetCount n s).start = s.start ∧ (setSetCount n s).scanner = s.scanner ∧ (setSetCount n s).image = s.image
      ∧ (setSetCount n s).refreshPointer = s.refreshPointer ∧ (setSetCount n s).answers = s.answers
      ∧ (setSetCount n s).sequencer = s.sequencer ∧ (setSetCount n s).memory = s.memory
      ∧ (setSetCount n s).crescendo = s.crescendo ∧ (setSetCount n s).motion = s.motion ∧ (setSetCount n s).link = s.link
      ∧ (setSetCount n s).peers = s.peers ∧ (setSetCount n s).supply = s.supply ∧ (setSetCount n s).faults = s.faults
      ∧ (setSetCount n s).held = s.held ∧ (setSetCount n s).config = s.config ∧ (setSetCount n s).bases = s.bases := by
  simp [setSetCount]

/-- It changes image, link, motion, recallUnit, faults, answers alone. -/
@[simp] theorem recallPiston_frame (p : Piston) (s : State) :
    (recallPiston p s).pending = s.pending ∧ (recallPiston p s).station = s.station ∧ (recallPiston p s).cfg = s.cfg
      ∧ (recallPiston p s).start = s.start ∧ (recallPiston p s).scanner = s.scanner
      ∧ (recallPiston p s).refreshPointer = s.refreshPointer ∧ (recallPiston p s).sequencer = s.sequencer
      ∧ (recallPiston p s).memory = s.memory ∧ (recallPiston p s).crescendo = s.crescendo ∧ (recallPiston p s).peers = s.peers
      ∧ (recallPiston p s).supply = s.supply ∧ (recallPiston p s).held = s.held ∧ (recallPiston p s).config = s.config
      ∧ (recallPiston p s).bases = s.bases := by
  rw [recallPiston]
  generalize newest s.memory (s.slotOfPiston p) = o
  cases o <;> simp

/-- It changes memory, recallUnit, answers alone. -/
@[simp] theorem capturePiston_frame (p : Piston) (r : Record) (s : State) :
    (capturePiston p r s).pending = s.pending ∧ (capturePiston p r s).station = s.station ∧ (capturePiston p r s).cfg = s.cfg
      ∧ (capturePiston p r s).start = s.start ∧ (capturePiston p r s).scanner = s.scanner
      ∧ (capturePiston p r s).image = s.image ∧ (capturePiston p r s).refreshPointer = s.refreshPointer
      ∧ (capturePiston p r s).sequencer = s.sequencer ∧ (capturePiston p r s).crescendo = s.crescendo
      ∧ (capturePiston p r s).motion = s.motion ∧ (capturePiston p r s).link = s.link ∧ (capturePiston p r s).peers = s.peers
      ∧ (capturePiston p r s).supply = s.supply ∧ (capturePiston p r s).faults = s.faults
      ∧ (capturePiston p r s).held = s.held ∧ (capturePiston p r s).config = s.config
      ∧ (capturePiston p r s).memory.partition = s.memory.partition ∧ (capturePiston p r s).bases = s.bases := by
  simp only [capturePiston]
  split
  · simp
  · split
    · rename_i h
      simp [writeRequest_frame h]
    · simp

/-- It changes image, link, motion, recallUnit, faults, answers, memory alone. -/
@[simp] theorem pressGeneral_frame (g : Nat) (s : State) :
    (pressGeneral g s).pending = s.pending ∧ (pressGeneral g s).station = s.station ∧ (pressGeneral g s).cfg = s.cfg
      ∧ (pressGeneral g s).start = s.start ∧ (pressGeneral g s).scanner = s.scanner
      ∧ (pressGeneral g s).refreshPointer = s.refreshPointer ∧ (pressGeneral g s).sequencer = s.sequencer
      ∧ (pressGeneral g s).crescendo = s.crescendo ∧ (pressGeneral g s).peers = s.peers ∧ (pressGeneral g s).supply = s.supply
      ∧ (pressGeneral g s).held = s.held ∧ (pressGeneral g s).config = s.config
      ∧ (pressGeneral g s).memory.partition = s.memory.partition ∧ (pressGeneral g s).bases = s.bases := by
  simp only [pressGeneral]
  repeat' split
  all_goals simp

/-- It changes image, link, motion, recallUnit, faults, answers, memory alone. -/
@[simp] theorem pressDivisional_frame (d n : Nat) (s : State) :
    (pressDivisional d n s).pending = s.pending ∧ (pressDivisional d n s).station = s.station
      ∧ (pressDivisional d n s).cfg = s.cfg ∧ (pressDivisional d n s).start = s.start
      ∧ (pressDivisional d n s).scanner = s.scanner ∧ (pressDivisional d n s).refreshPointer = s.refreshPointer
      ∧ (pressDivisional d n s).sequencer = s.sequencer ∧ (pressDivisional d n s).crescendo = s.crescendo
      ∧ (pressDivisional d n s).peers = s.peers ∧ (pressDivisional d n s).supply = s.supply
      ∧ (pressDivisional d n s).held = s.held ∧ (pressDivisional d n s).config = s.config
      ∧ (pressDivisional d n s).memory.partition = s.memory.partition ∧ (pressDivisional d n s).bases = s.bases := by
  simp only [pressDivisional]
  repeat' split
  all_goals simp

/-- It changes image, link, motion, crescendo, faults, recallUnit alone. -/
@[simp] theorem cancelAll_frame (s : State) :
    (cancelAll s).pending = s.pending ∧ (cancelAll s).station = s.station ∧ (cancelAll s).cfg = s.cfg
      ∧ (cancelAll s).start = s.start ∧ (cancelAll s).scanner = s.scanner ∧ (cancelAll s).refreshPointer = s.refreshPointer
      ∧ (cancelAll s).answers = s.answers ∧ (cancelAll s).sequencer = s.sequencer ∧ (cancelAll s).memory = s.memory
      ∧ (cancelAll s).peers = s.peers ∧ (cancelAll s).supply = s.supply ∧ (cancelAll s).held = s.held
      ∧ (cancelAll s).config = s.config ∧ (cancelAll s).bases = s.bases := by
  simp [cancelAll]

/-- It changes image, link, motion, crescendo, faults, recallUnit, memory alone. -/
@[simp] theorem pressGeneralCancel_frame (s : State) :
    (pressGeneralCancel s).pending = s.pending ∧ (pressGeneralCancel s).station = s.station
      ∧ (pressGeneralCancel s).cfg = s.cfg ∧ (pressGeneralCancel s).start = s.start
      ∧ (pressGeneralCancel s).scanner = s.scanner ∧ (pressGeneralCancel s).refreshPointer = s.refreshPointer
      ∧ (pressGeneralCancel s).answers = s.answers ∧ (pressGeneralCancel s).sequencer = s.sequencer
      ∧ (pressGeneralCancel s).peers = s.peers ∧ (pressGeneralCancel s).supply = s.supply
      ∧ (pressGeneralCancel s).held = s.held ∧ (pressGeneralCancel s).config = s.config
      ∧ (pressGeneralCancel s).memory.partition = s.memory.partition ∧ (pressGeneralCancel s).bases = s.bases := by
  unfold pressGeneralCancel
  split <;> simp

/-- It changes image, link, motion, recallUnit, memory alone. -/
@[simp] theorem pressDivisionCancel_frame (d : Nat) (s : State) :
    (pressDivisionCancel d s).pending = s.pending ∧ (pressDivisionCancel d s).station = s.station
      ∧ (pressDivisionCancel d s).cfg = s.cfg ∧ (pressDivisionCancel d s).start = s.start
      ∧ (pressDivisionCancel d s).scanner = s.scanner ∧ (pressDivisionCancel d s).refreshPointer = s.refreshPointer
      ∧ (pressDivisionCancel d s).answers = s.answers ∧ (pressDivisionCancel d s).sequencer = s.sequencer
      ∧ (pressDivisionCancel d s).crescendo = s.crescendo ∧ (pressDivisionCancel d s).peers = s.peers
      ∧ (pressDivisionCancel d s).supply = s.supply ∧ (pressDivisionCancel d s).faults = s.faults
      ∧ (pressDivisionCancel d s).held = s.held ∧ (pressDivisionCancel d s).config = s.config
      ∧ (pressDivisionCancel d s).memory.partition = s.memory.partition ∧ (pressDivisionCancel d s).bases = s.bases := by
  simp only [pressDivisionCancel]
  repeat' split
  all_goals simp

/-- It changes recallUnit, memory alone. -/
@[simp] theorem releaseDivisionCancel_frame (d : Nat) (s : State) :
    (releaseDivisionCancel d s).pending = s.pending ∧ (releaseDivisionCancel d s).station = s.station
      ∧ (releaseDivisionCancel d s).cfg = s.cfg ∧ (releaseDivisionCancel d s).start = s.start
      ∧ (releaseDivisionCancel d s).scanner = s.scanner ∧ (releaseDivisionCancel d s).image = s.image
      ∧ (releaseDivisionCancel d s).refreshPointer = s.refreshPointer ∧ (releaseDivisionCancel d s).answers = s.answers
      ∧ (releaseDivisionCancel d s).sequencer = s.sequencer ∧ (releaseDivisionCancel d s).crescendo = s.crescendo
      ∧ (releaseDivisionCancel d s).motion = s.motion ∧ (releaseDivisionCancel d s).link = s.link
      ∧ (releaseDivisionCancel d s).peers = s.peers ∧ (releaseDivisionCancel d s).supply = s.supply
      ∧ (releaseDivisionCancel d s).faults = s.faults ∧ (releaseDivisionCancel d s).held = s.held
      ∧ (releaseDivisionCancel d s).config = s.config ∧ (releaseDivisionCancel d s).memory.partition = s.memory.partition
      ∧ (releaseDivisionCancel d s).bases = s.bases := by
  unfold releaseDivisionCancel
  split <;> simp

/-- It changes recallUnit, memory alone. -/
@[simp] theorem pressSet_frame (s : State) :
    (pressSet s).pending = s.pending ∧ (pressSet s).station = s.station ∧ (pressSet s).cfg = s.cfg
      ∧ (pressSet s).start = s.start ∧ (pressSet s).scanner = s.scanner ∧ (pressSet s).image = s.image
      ∧ (pressSet s).refreshPointer = s.refreshPointer ∧ (pressSet s).answers = s.answers
      ∧ (pressSet s).sequencer = s.sequencer ∧ (pressSet s).crescendo = s.crescendo ∧ (pressSet s).motion = s.motion
      ∧ (pressSet s).link = s.link ∧ (pressSet s).peers = s.peers ∧ (pressSet s).supply = s.supply
      ∧ (pressSet s).faults = s.faults ∧ (pressSet s).held = s.held ∧ (pressSet s).config = s.config
      ∧ (pressSet s).memory.partition = s.memory.partition ∧ (pressSet s).bases = s.bases := by
  unfold pressSet
  split <;> simp

/-- It changes recallUnit, memory alone. -/
@[simp] theorem releaseSet_frame (s : State) :
    (releaseSet s).pending = s.pending ∧ (releaseSet s).station = s.station ∧ (releaseSet s).cfg = s.cfg
      ∧ (releaseSet s).start = s.start ∧ (releaseSet s).scanner = s.scanner ∧ (releaseSet s).image = s.image
      ∧ (releaseSet s).refreshPointer = s.refreshPointer ∧ (releaseSet s).answers = s.answers
      ∧ (releaseSet s).sequencer = s.sequencer ∧ (releaseSet s).crescendo = s.crescendo ∧ (releaseSet s).motion = s.motion
      ∧ (releaseSet s).link = s.link ∧ (releaseSet s).peers = s.peers ∧ (releaseSet s).supply = s.supply
      ∧ (releaseSet s).faults = s.faults ∧ (releaseSet s).held = s.held ∧ (releaseSet s).config = s.config
      ∧ (releaseSet s).memory.partition = s.memory.partition ∧ (releaseSet s).bases = s.bases := by
  unfold releaseSet
  split <;> simp

/-- It changes sequencer, link, faults alone. -/
@[simp] theorem loadLevel_frame (n : Nat) (s : State) :
    (loadLevel n s).pending = s.pending ∧ (loadLevel n s).station = s.station ∧ (loadLevel n s).cfg = s.cfg
      ∧ (loadLevel n s).start = s.start ∧ (loadLevel n s).scanner = s.scanner ∧ (loadLevel n s).image = s.image
      ∧ (loadLevel n s).refreshPointer = s.refreshPointer ∧ (loadLevel n s).recallUnit = s.recallUnit
      ∧ (loadLevel n s).answers = s.answers ∧ (loadLevel n s).memory = s.memory ∧ (loadLevel n s).crescendo = s.crescendo
      ∧ (loadLevel n s).motion = s.motion ∧ (loadLevel n s).peers = s.peers ∧ (loadLevel n s).supply = s.supply
      ∧ (loadLevel n s).held = s.held ∧ (loadLevel n s).config = s.config ∧ (loadLevel n s).bases = s.bases := by
  simp [loadLevel]

/-- It changes recallUnit, sequencer, link, faults alone. -/
@[simp] theorem changeLevel_frame (n : Nat) (s : State) :
    (changeLevel n s).pending = s.pending ∧ (changeLevel n s).station = s.station ∧ (changeLevel n s).cfg = s.cfg
      ∧ (changeLevel n s).start = s.start ∧ (changeLevel n s).scanner = s.scanner ∧ (changeLevel n s).image = s.image
      ∧ (changeLevel n s).refreshPointer = s.refreshPointer ∧ (changeLevel n s).answers = s.answers
      ∧ (changeLevel n s).memory = s.memory ∧ (changeLevel n s).crescendo = s.crescendo ∧ (changeLevel n s).motion = s.motion
      ∧ (changeLevel n s).peers = s.peers ∧ (changeLevel n s).supply = s.supply ∧ (changeLevel n s).held = s.held
      ∧ (changeLevel n s).config = s.config ∧ (changeLevel n s).bases = s.bases := by
  simp [changeLevel]

/-- It changes recallUnit, sequencer, link, faults, memory alone. -/
@[simp] theorem pressLevelUp_frame (s : State) :
    (pressLevelUp s).pending = s.pending ∧ (pressLevelUp s).station = s.station ∧ (pressLevelUp s).cfg = s.cfg
      ∧ (pressLevelUp s).start = s.start ∧ (pressLevelUp s).scanner = s.scanner ∧ (pressLevelUp s).image = s.image
      ∧ (pressLevelUp s).refreshPointer = s.refreshPointer ∧ (pressLevelUp s).answers = s.answers
      ∧ (pressLevelUp s).crescendo = s.crescendo ∧ (pressLevelUp s).motion = s.motion ∧ (pressLevelUp s).peers = s.peers
      ∧ (pressLevelUp s).supply = s.supply ∧ (pressLevelUp s).held = s.held ∧ (pressLevelUp s).config = s.config
      ∧ (pressLevelUp s).memory.partition = s.memory.partition ∧ (pressLevelUp s).bases = s.bases := by
  simp only [pressLevelUp]
  repeat' split
  all_goals simp

/-- It changes recallUnit, sequencer, link, faults, memory alone. -/
@[simp] theorem pressLevelDown_frame (s : State) :
    (pressLevelDown s).pending = s.pending ∧ (pressLevelDown s).station = s.station ∧ (pressLevelDown s).cfg = s.cfg
      ∧ (pressLevelDown s).start = s.start ∧ (pressLevelDown s).scanner = s.scanner ∧ (pressLevelDown s).image = s.image
      ∧ (pressLevelDown s).refreshPointer = s.refreshPointer ∧ (pressLevelDown s).answers = s.answers
      ∧ (pressLevelDown s).crescendo = s.crescendo ∧ (pressLevelDown s).motion = s.motion ∧ (pressLevelDown s).peers = s.peers
      ∧ (pressLevelDown s).supply = s.supply ∧ (pressLevelDown s).held = s.held ∧ (pressLevelDown s).config = s.config
      ∧ (pressLevelDown s).memory.partition = s.memory.partition ∧ (pressLevelDown s).bases = s.bases := by
  simp only [pressLevelDown]
  repeat' split
  all_goals simp

/-- It changes recallUnit, memory, answers alone. -/
@[simp] theorem pressProtect_frame (s : State) :
    (pressProtect s).pending = s.pending ∧ (pressProtect s).station = s.station ∧ (pressProtect s).cfg = s.cfg
      ∧ (pressProtect s).start = s.start ∧ (pressProtect s).scanner = s.scanner ∧ (pressProtect s).image = s.image
      ∧ (pressProtect s).refreshPointer = s.refreshPointer ∧ (pressProtect s).sequencer = s.sequencer
      ∧ (pressProtect s).crescendo = s.crescendo ∧ (pressProtect s).motion = s.motion ∧ (pressProtect s).link = s.link
      ∧ (pressProtect s).peers = s.peers ∧ (pressProtect s).supply = s.supply ∧ (pressProtect s).faults = s.faults
      ∧ (pressProtect s).held = s.held ∧ (pressProtect s).config = s.config
      ∧ (pressProtect s).memory.partition = s.memory.partition ∧ (pressProtect s).bases = s.bases := by
  simp only [pressProtect]
  split
  · split
    · split
      · rename_i h
        simp [writeRequest_frame h]
      · simp
    · simp
  · simp

/-- It changes memory alone. -/
@[simp] theorem reportRelease_frame (s : State) :
    (reportRelease s).pending = s.pending ∧ (reportRelease s).station = s.station ∧ (reportRelease s).cfg = s.cfg
      ∧ (reportRelease s).start = s.start ∧ (reportRelease s).scanner = s.scanner ∧ (reportRelease s).image = s.image
      ∧ (reportRelease s).refreshPointer = s.refreshPointer ∧ (reportRelease s).recallUnit = s.recallUnit
      ∧ (reportRelease s).answers = s.answers ∧ (reportRelease s).sequencer = s.sequencer
      ∧ (reportRelease s).crescendo = s.crescendo ∧ (reportRelease s).motion = s.motion ∧ (reportRelease s).link = s.link
      ∧ (reportRelease s).peers = s.peers ∧ (reportRelease s).supply = s.supply ∧ (reportRelease s).faults = s.faults
      ∧ (reportRelease s).held = s.held ∧ (reportRelease s).config = s.config
      ∧ (reportRelease s).memory.partition = s.memory.partition ∧ (reportRelease s).bases = s.bases := by
  unfold reportRelease
  split <;> simp

/-- It changes recallUnit alone. -/
@[simp] theorem dropCounts_frame (s : State) :
    (dropCounts s).pending = s.pending ∧ (dropCounts s).station = s.station ∧ (dropCounts s).cfg = s.cfg
      ∧ (dropCounts s).start = s.start ∧ (dropCounts s).scanner = s.scanner ∧ (dropCounts s).image = s.image
      ∧ (dropCounts s).refreshPointer = s.refreshPointer ∧ (dropCounts s).answers = s.answers
      ∧ (dropCounts s).sequencer = s.sequencer ∧ (dropCounts s).memory = s.memory ∧ (dropCounts s).crescendo = s.crescendo
      ∧ (dropCounts s).motion = s.motion ∧ (dropCounts s).link = s.link ∧ (dropCounts s).peers = s.peers
      ∧ (dropCounts s).supply = s.supply ∧ (dropCounts s).faults = s.faults ∧ (dropCounts s).held = s.held
      ∧ (dropCounts s).config = s.config ∧ (dropCounts s).bases = s.bases := by
  simp [dropCounts]

/-- It changes image, link, motion, recallUnit, faults, answers, memory, crescendo alone. -/
@[simp] theorem takeStep_frame (x : SequenceStep) (s : State) :
    (takeStep x s).pending = s.pending ∧ (takeStep x s).station = s.station ∧ (takeStep x s).cfg = s.cfg
      ∧ (takeStep x s).start = s.start ∧ (takeStep x s).scanner = s.scanner ∧ (takeStep x s).refreshPointer = s.refreshPointer
      ∧ (takeStep x s).sequencer = s.sequencer ∧ (takeStep x s).peers = s.peers ∧ (takeStep x s).supply = s.supply
      ∧ (takeStep x s).held = s.held ∧ (takeStep x s).config = s.config ∧ (takeStep x s).memory.partition = s.memory.partition
      ∧ (takeStep x s).bases = s.bases := by
  cases x <;> simp [takeStep]

/-- It changes image, link, motion, recallUnit, faults, answers, memory, crescendo alone. -/
@[simp] theorem performStep_frame (s : State) :
    (performStep s).pending = s.pending ∧ (performStep s).station = s.station ∧ (performStep s).cfg = s.cfg
      ∧ (performStep s).start = s.start ∧ (performStep s).scanner = s.scanner
      ∧ (performStep s).refreshPointer = s.refreshPointer ∧ (performStep s).sequencer = s.sequencer
      ∧ (performStep s).peers = s.peers ∧ (performStep s).supply = s.supply ∧ (performStep s).held = s.held
      ∧ (performStep s).config = s.config ∧ (performStep s).memory.partition = s.memory.partition
      ∧ (performStep s).bases = s.bases := by
  simp only [performStep]
  repeat' split
  all_goals simp

/-- It changes sequencer alone. -/
@[simp] theorem setCursor_frame (n : Nat) (s : State) :
    (setCursor n s).pending = s.pending ∧ (setCursor n s).station = s.station ∧ (setCursor n s).cfg = s.cfg
      ∧ (setCursor n s).start = s.start ∧ (setCursor n s).scanner = s.scanner ∧ (setCursor n s).image = s.image
      ∧ (setCursor n s).refreshPointer = s.refreshPointer ∧ (setCursor n s).recallUnit = s.recallUnit
      ∧ (setCursor n s).answers = s.answers ∧ (setCursor n s).memory = s.memory ∧ (setCursor n s).crescendo = s.crescendo
      ∧ (setCursor n s).motion = s.motion ∧ (setCursor n s).link = s.link ∧ (setCursor n s).peers = s.peers
      ∧ (setCursor n s).supply = s.supply ∧ (setCursor n s).faults = s.faults ∧ (setCursor n s).held = s.held
      ∧ (setCursor n s).config = s.config ∧ (setCursor n s).bases = s.bases := by
  simp [setCursor]

/-- It changes image, link, motion, recallUnit, faults, answers, memory, crescendo, sequencer alone. -/
@[simp] theorem stepNext_frame (s : State) :
    (stepNext s).pending = s.pending ∧ (stepNext s).station = s.station ∧ (stepNext s).cfg = s.cfg
      ∧ (stepNext s).start = s.start ∧ (stepNext s).scanner = s.scanner ∧ (stepNext s).refreshPointer = s.refreshPointer
      ∧ (stepNext s).peers = s.peers ∧ (stepNext s).supply = s.supply ∧ (stepNext s).held = s.held
      ∧ (stepNext s).config = s.config ∧ (stepNext s).memory.partition = s.memory.partition ∧ (stepNext s).bases = s.bases := by
  unfold stepNext
  split <;> simp

/-- It changes image, link, motion, recallUnit, faults, answers, memory, crescendo, sequencer alone. -/
@[simp] theorem stepPrevious_frame (s : State) :
    (stepPrevious s).pending = s.pending ∧ (stepPrevious s).station = s.station ∧ (stepPrevious s).cfg = s.cfg
      ∧ (stepPrevious s).start = s.start ∧ (stepPrevious s).scanner = s.scanner
      ∧ (stepPrevious s).refreshPointer = s.refreshPointer ∧ (stepPrevious s).peers = s.peers
      ∧ (stepPrevious s).supply = s.supply ∧ (stepPrevious s).held = s.held ∧ (stepPrevious s).config = s.config
      ∧ (stepPrevious s).memory.partition = s.memory.partition ∧ (stepPrevious s).bases = s.bases := by
  unfold stepPrevious
  split <;> simp

/-- It changes memory, sequencer, answers alone. -/
@[simp] theorem edit_frame (steps : List SequenceStep) (c i j : Nat) (s : State) :
    (edit steps c i j s).pending = s.pending ∧ (edit steps c i j s).station = s.station ∧ (edit steps c i j s).cfg = s.cfg
      ∧ (edit steps c i j s).start = s.start ∧ (edit steps c i j s).scanner = s.scanner ∧ (edit steps c i j s).image = s.image
      ∧ (edit steps c i j s).refreshPointer = s.refreshPointer ∧ (edit steps c i j s).recallUnit = s.recallUnit
      ∧ (edit steps c i j s).crescendo = s.crescendo ∧ (edit steps c i j s).motion = s.motion
      ∧ (edit steps c i j s).link = s.link ∧ (edit steps c i j s).peers = s.peers ∧ (edit steps c i j s).supply = s.supply
      ∧ (edit steps c i j s).faults = s.faults ∧ (edit steps c i j s).held = s.held ∧ (edit steps c i j s).config = s.config
      ∧ (edit steps c i j s).memory.partition = s.memory.partition ∧ (edit steps c i j s).bases = s.bases := by
  rw [edit]
  split
  · rename_i h
    simp [writeRequest_frame h]
  · simp

/-- It changes memory, sequencer, answers alone. -/
@[simp] theorem insertStep_frame (s : State) :
    (insertStep s).pending = s.pending ∧ (insertStep s).station = s.station ∧ (insertStep s).cfg = s.cfg
      ∧ (insertStep s).start = s.start ∧ (insertStep s).scanner = s.scanner ∧ (insertStep s).image = s.image
      ∧ (insertStep s).refreshPointer = s.refreshPointer ∧ (insertStep s).recallUnit = s.recallUnit
      ∧ (insertStep s).crescendo = s.crescendo ∧ (insertStep s).motion = s.motion ∧ (insertStep s).link = s.link
      ∧ (insertStep s).peers = s.peers ∧ (insertStep s).supply = s.supply ∧ (insertStep s).faults = s.faults
      ∧ (insertStep s).held = s.held ∧ (insertStep s).config = s.config ∧ (insertStep s).memory.partition = s.memory.partition
      ∧ (insertStep s).bases = s.bases := by
  simp only [insertStep]
  repeat' split
  all_goals simp

/-- It changes memory, sequencer, answers alone. -/
@[simp] theorem deleteStep_frame (s : State) :
    (deleteStep s).pending = s.pending ∧ (deleteStep s).station = s.station ∧ (deleteStep s).cfg = s.cfg
      ∧ (deleteStep s).start = s.start ∧ (deleteStep s).scanner = s.scanner ∧ (deleteStep s).image = s.image
      ∧ (deleteStep s).refreshPointer = s.refreshPointer ∧ (deleteStep s).recallUnit = s.recallUnit
      ∧ (deleteStep s).crescendo = s.crescendo ∧ (deleteStep s).motion = s.motion ∧ (deleteStep s).link = s.link
      ∧ (deleteStep s).peers = s.peers ∧ (deleteStep s).supply = s.supply ∧ (deleteStep s).faults = s.faults
      ∧ (deleteStep s).held = s.held ∧ (deleteStep s).config = s.config ∧ (deleteStep s).memory.partition = s.memory.partition
      ∧ (deleteStep s).bases = s.bases := by
  simp only [deleteStep]
  repeat' split
  all_goals simp

/-- It changes image, link, motion, recallUnit, faults, answers, memory, crescendo, sequencer alone. -/
@[simp] theorem pressNext_frame (s : State) :
    (pressNext s).pending = s.pending ∧ (pressNext s).station = s.station ∧ (pressNext s).cfg = s.cfg
      ∧ (pressNext s).start = s.start ∧ (pressNext s).scanner = s.scanner ∧ (pressNext s).refreshPointer = s.refreshPointer
      ∧ (pressNext s).peers = s.peers ∧ (pressNext s).supply = s.supply ∧ (pressNext s).held = s.held
      ∧ (pressNext s).config = s.config ∧ (pressNext s).memory.partition = s.memory.partition ∧ (pressNext s).bases = s.bases := by
  simp only [pressNext]
  repeat' split
  all_goals simp

/-- It changes image, link, motion, recallUnit, faults, answers, memory, crescendo, sequencer alone. -/
@[simp] theorem pressPrevious_frame (s : State) :
    (pressPrevious s).pending = s.pending ∧ (pressPrevious s).station = s.station ∧ (pressPrevious s).cfg = s.cfg
      ∧ (pressPrevious s).start = s.start ∧ (pressPrevious s).scanner = s.scanner
      ∧ (pressPrevious s).refreshPointer = s.refreshPointer ∧ (pressPrevious s).peers = s.peers
      ∧ (pressPrevious s).supply = s.supply ∧ (pressPrevious s).held = s.held ∧ (pressPrevious s).config = s.config
      ∧ (pressPrevious s).memory.partition = s.memory.partition ∧ (pressPrevious s).bases = s.bases := by
  simp only [pressPrevious]
  repeat' split
  all_goals simp

/-- It changes link alone. -/
@[simp] theorem reportArrival_frame (s : State) :
    (reportArrival s).pending = s.pending ∧ (reportArrival s).station = s.station ∧ (reportArrival s).cfg = s.cfg
      ∧ (reportArrival s).start = s.start ∧ (reportArrival s).scanner = s.scanner ∧ (reportArrival s).image = s.image
      ∧ (reportArrival s).refreshPointer = s.refreshPointer ∧ (reportArrival s).recallUnit = s.recallUnit
      ∧ (reportArrival s).answers = s.answers ∧ (reportArrival s).sequencer = s.sequencer
      ∧ (reportArrival s).memory = s.memory ∧ (reportArrival s).crescendo = s.crescendo ∧ (reportArrival s).motion = s.motion
      ∧ (reportArrival s).peers = s.peers ∧ (reportArrival s).supply = s.supply ∧ (reportArrival s).faults = s.faults
      ∧ (reportArrival s).held = s.held ∧ (reportArrival s).config = s.config ∧ (reportArrival s).bases = s.bases := by
  simp [reportArrival]

/-- It changes peers, faults, link, crescendo alone. -/
@[simp] theorem matchedHeartbeat_frame (n : Nat) (p : Peer) (h : HeartbeatContent) (s : State) :
    (matchedHeartbeat n p h s).pending = s.pending ∧ (matchedHeartbeat n p h s).station = s.station
      ∧ (matchedHeartbeat n p h s).cfg = s.cfg ∧ (matchedHeartbeat n p h s).start = s.start
      ∧ (matchedHeartbeat n p h s).scanner = s.scanner ∧ (matchedHeartbeat n p h s).image = s.image
      ∧ (matchedHeartbeat n p h s).refreshPointer = s.refreshPointer ∧ (matchedHeartbeat n p h s).recallUnit = s.recallUnit
      ∧ (matchedHeartbeat n p h s).answers = s.answers ∧ (matchedHeartbeat n p h s).sequencer = s.sequencer
      ∧ (matchedHeartbeat n p h s).memory = s.memory ∧ (matchedHeartbeat n p h s).motion = s.motion
      ∧ (matchedHeartbeat n p h s).supply = s.supply ∧ (matchedHeartbeat n p h s).held = s.held
      ∧ (matchedHeartbeat n p h s).config = s.config ∧ (matchedHeartbeat n p h s).bases = s.bases := by
  simp only [matchedHeartbeat]
  split <;> simp

/-- It changes peers, faults, link, crescendo alone. -/
@[simp] theorem unknownHeartbeat_frame (o : Nat) (h : HeartbeatContent) (s : State) :
    (unknownHeartbeat o h s).pending = s.pending ∧ (unknownHeartbeat o h s).station = s.station
      ∧ (unknownHeartbeat o h s).cfg = s.cfg ∧ (unknownHeartbeat o h s).start = s.start
      ∧ (unknownHeartbeat o h s).scanner = s.scanner ∧ (unknownHeartbeat o h s).image = s.image
      ∧ (unknownHeartbeat o h s).refreshPointer = s.refreshPointer ∧ (unknownHeartbeat o h s).recallUnit = s.recallUnit
      ∧ (unknownHeartbeat o h s).answers = s.answers ∧ (unknownHeartbeat o h s).sequencer = s.sequencer
      ∧ (unknownHeartbeat o h s).memory = s.memory ∧ (unknownHeartbeat o h s).motion = s.motion
      ∧ (unknownHeartbeat o h s).supply = s.supply ∧ (unknownHeartbeat o h s).held = s.held
      ∧ (unknownHeartbeat o h s).config = s.config ∧ (unknownHeartbeat o h s).bases = s.bases := by
  unfold unknownHeartbeat
  split <;> simp

/-- It changes peers, faults, link, crescendo alone. -/
@[simp] theorem takeHeartbeat_frame (o : Nat) (h : HeartbeatContent) (s : State) :
    (takeHeartbeat o h s).pending = s.pending ∧ (takeHeartbeat o h s).station = s.station ∧ (takeHeartbeat o h s).cfg = s.cfg
      ∧ (takeHeartbeat o h s).start = s.start ∧ (takeHeartbeat o h s).scanner = s.scanner
      ∧ (takeHeartbeat o h s).image = s.image ∧ (takeHeartbeat o h s).refreshPointer = s.refreshPointer
      ∧ (takeHeartbeat o h s).recallUnit = s.recallUnit ∧ (takeHeartbeat o h s).answers = s.answers
      ∧ (takeHeartbeat o h s).sequencer = s.sequencer ∧ (takeHeartbeat o h s).memory = s.memory
      ∧ (takeHeartbeat o h s).motion = s.motion ∧ (takeHeartbeat o h s).supply = s.supply
      ∧ (takeHeartbeat o h s).held = s.held ∧ (takeHeartbeat o h s).config = s.config ∧ (takeHeartbeat o h s).bases = s.bases := by
  simp only [takeHeartbeat]
  repeat' split
  all_goals simp

/-- It changes peers, crescendo alone. -/
@[simp] theorem takeContribution_frame (o : Nat) (c : CrescendoContent) (s : State) :
    (takeContribution o c s).pending = s.pending ∧ (takeContribution o c s).station = s.station
      ∧ (takeContribution o c s).cfg = s.cfg ∧ (takeContribution o c s).start = s.start
      ∧ (takeContribution o c s).scanner = s.scanner ∧ (takeContribution o c s).image = s.image
      ∧ (takeContribution o c s).refreshPointer = s.refreshPointer ∧ (takeContribution o c s).recallUnit = s.recallUnit
      ∧ (takeContribution o c s).answers = s.answers ∧ (takeContribution o c s).sequencer = s.sequencer
      ∧ (takeContribution o c s).memory = s.memory ∧ (takeContribution o c s).motion = s.motion
      ∧ (takeContribution o c s).link = s.link ∧ (takeContribution o c s).supply = s.supply
      ∧ (takeContribution o c s).faults = s.faults ∧ (takeContribution o c s).held = s.held
      ∧ (takeContribution o c s).config = s.config ∧ (takeContribution o c s).bases = s.bases := by
  simp only [takeContribution]
  repeat' split
  all_goals simp

/-- It changes link, start alone. -/
@[simp] theorem handHeartbeat_frame (s : State) :
    (handHeartbeat s).pending = s.pending ∧ (handHeartbeat s).station = s.station ∧ (handHeartbeat s).cfg = s.cfg
      ∧ (handHeartbeat s).scanner = s.scanner ∧ (handHeartbeat s).image = s.image
      ∧ (handHeartbeat s).refreshPointer = s.refreshPointer ∧ (handHeartbeat s).recallUnit = s.recallUnit
      ∧ (handHeartbeat s).answers = s.answers ∧ (handHeartbeat s).sequencer = s.sequencer
      ∧ (handHeartbeat s).memory = s.memory ∧ (handHeartbeat s).crescendo = s.crescendo ∧ (handHeartbeat s).motion = s.motion
      ∧ (handHeartbeat s).peers = s.peers ∧ (handHeartbeat s).supply = s.supply ∧ (handHeartbeat s).faults = s.faults
      ∧ (handHeartbeat s).held = s.held ∧ (handHeartbeat s).config = s.config ∧ (handHeartbeat s).bases = s.bases := by
  simp [handHeartbeat]

/-- It changes memory, motion, recallUnit alone. -/
@[simp] theorem stopBlocks_frame (s : State) :
    (stopBlocks s).pending = s.pending ∧ (stopBlocks s).station = s.station ∧ (stopBlocks s).cfg = s.cfg
      ∧ (stopBlocks s).start = s.start ∧ (stopBlocks s).scanner = s.scanner ∧ (stopBlocks s).image = s.image
      ∧ (stopBlocks s).refreshPointer = s.refreshPointer ∧ (stopBlocks s).answers = s.answers
      ∧ (stopBlocks s).sequencer = s.sequencer ∧ (stopBlocks s).crescendo = s.crescendo ∧ (stopBlocks s).link = s.link
      ∧ (stopBlocks s).peers = s.peers ∧ (stopBlocks s).supply = s.supply ∧ (stopBlocks s).faults = s.faults
      ∧ (stopBlocks s).held = s.held ∧ (stopBlocks s).config = s.config ∧ (stopBlocks s).memory.partition = s.memory.partition
      ∧ (stopBlocks s).bases = s.bases := by
  simp [stopBlocks, State.bases]

/-- It changes station, start, memory, motion, recallUnit, held alone. -/
@[simp] theorem enterRestarting_frame (c : StartCause) (s : State) :
    (enterRestarting c s).pending = s.pending ∧ (enterRestarting c s).cfg = s.cfg ∧ (enterRestarting c s).scanner = s.scanner
      ∧ (enterRestarting c s).image = s.image ∧ (enterRestarting c s).refreshPointer = s.refreshPointer
      ∧ (enterRestarting c s).answers = s.answers ∧ (enterRestarting c s).sequencer = s.sequencer
      ∧ (enterRestarting c s).crescendo = s.crescendo ∧ (enterRestarting c s).link = s.link
      ∧ (enterRestarting c s).peers = s.peers ∧ (enterRestarting c s).supply = s.supply
      ∧ (enterRestarting c s).faults = s.faults ∧ (enterRestarting c s).config = s.config
      ∧ (enterRestarting c s).memory.partition = s.memory.partition ∧ (enterRestarting c s).bases = s.bases := by
  simp only [enterRestarting]
  split <;> simp

/-- It changes memory alone. -/
@[simp] theorem saveLastRegistration_frame (s : State) :
    (saveLastRegistration s).pending = s.pending ∧ (saveLastRegistration s).station = s.station
      ∧ (saveLastRegistration s).cfg = s.cfg ∧ (saveLastRegistration s).start = s.start
      ∧ (saveLastRegistration s).scanner = s.scanner ∧ (saveLastRegistration s).image = s.image
      ∧ (saveLastRegistration s).refreshPointer = s.refreshPointer ∧ (saveLastRegistration s).recallUnit = s.recallUnit
      ∧ (saveLastRegistration s).answers = s.answers ∧ (saveLastRegistration s).sequencer = s.sequencer
      ∧ (saveLastRegistration s).crescendo = s.crescendo ∧ (saveLastRegistration s).motion = s.motion
      ∧ (saveLastRegistration s).link = s.link ∧ (saveLastRegistration s).peers = s.peers
      ∧ (saveLastRegistration s).supply = s.supply ∧ (saveLastRegistration s).faults = s.faults
      ∧ (saveLastRegistration s).held = s.held ∧ (saveLastRegistration s).config = s.config
      ∧ (saveLastRegistration s).memory.partition = s.memory.partition ∧ (saveLastRegistration s).bases = s.bases := by
  rw [saveLastRegistration]
  split
  · generalize hw : writeRequest _ s = o
    cases o with
    | none => simp
    | some t => simp [writeRequest_frame hw]
  · simp

/-- It changes station, motion, recallUnit, crescendo, memory alone. -/
@[simp] theorem enterDormant_frame (s : State) :
    (enterDormant s).pending = s.pending ∧ (enterDormant s).cfg = s.cfg ∧ (enterDormant s).start = s.start
      ∧ (enterDormant s).scanner = s.scanner ∧ (enterDormant s).image = s.image
      ∧ (enterDormant s).refreshPointer = s.refreshPointer ∧ (enterDormant s).answers = s.answers
      ∧ (enterDormant s).sequencer = s.sequencer ∧ (enterDormant s).link = s.link ∧ (enterDormant s).peers = s.peers
      ∧ (enterDormant s).supply = s.supply ∧ (enterDormant s).faults = s.faults ∧ (enterDormant s).held = s.held
      ∧ (enterDormant s).config = s.config ∧ (enterDormant s).memory.partition = s.memory.partition
      ∧ (enterDormant s).bases = s.bases := by
  simp [enterDormant]

/-- It changes station, motion, crescendo, link, faults alone. -/
@[simp] theorem enterAwake_frame (s : State) :
    (enterAwake s).pending = s.pending ∧ (enterAwake s).cfg = s.cfg ∧ (enterAwake s).start = s.start
      ∧ (enterAwake s).scanner = s.scanner ∧ (enterAwake s).image = s.image ∧ (enterAwake s).refreshPointer = s.refreshPointer
      ∧ (enterAwake s).recallUnit = s.recallUnit ∧ (enterAwake s).answers = s.answers ∧ (enterAwake s).sequencer = s.sequencer
      ∧ (enterAwake s).memory = s.memory ∧ (enterAwake s).peers = s.peers ∧ (enterAwake s).supply = s.supply
      ∧ (enterAwake s).held = s.held ∧ (enterAwake s).config = s.config ∧ (enterAwake s).bases = s.bases := by
  simp [enterAwake]

/-- It changes station, motion, recallUnit, crescendo, memory, link, faults alone. -/
@[simp] theorem judgeConsole_frame (s : State) :
    (judgeConsole s).pending = s.pending ∧ (judgeConsole s).cfg = s.cfg ∧ (judgeConsole s).start = s.start
      ∧ (judgeConsole s).scanner = s.scanner ∧ (judgeConsole s).image = s.image
      ∧ (judgeConsole s).refreshPointer = s.refreshPointer ∧ (judgeConsole s).answers = s.answers
      ∧ (judgeConsole s).sequencer = s.sequencer ∧ (judgeConsole s).peers = s.peers ∧ (judgeConsole s).supply = s.supply
      ∧ (judgeConsole s).held = s.held ∧ (judgeConsole s).config = s.config
      ∧ (judgeConsole s).memory.partition = s.memory.partition ∧ (judgeConsole s).bases = s.bases := by
  rw [judgeConsole]
  repeat' split
  all_goals simp

/-- It changes image, link, motion, faults alone. -/
@[simp] theorem applyPolicy_frame (s : State) :
    (applyPolicy s).pending = s.pending ∧ (applyPolicy s).station = s.station ∧ (applyPolicy s).cfg = s.cfg
      ∧ (applyPolicy s).start = s.start ∧ (applyPolicy s).scanner = s.scanner
      ∧ (applyPolicy s).refreshPointer = s.refreshPointer ∧ (applyPolicy s).recallUnit = s.recallUnit
      ∧ (applyPolicy s).answers = s.answers ∧ (applyPolicy s).sequencer = s.sequencer ∧ (applyPolicy s).memory = s.memory
      ∧ (applyPolicy s).crescendo = s.crescendo ∧ (applyPolicy s).peers = s.peers ∧ (applyPolicy s).supply = s.supply
      ∧ (applyPolicy s).held = s.held ∧ (applyPolicy s).config = s.config ∧ (applyPolicy s).bases = s.bases := by
  simp [applyPolicy]

/-- It changes link alone. -/
@[simp] theorem fixIdentity_frame (s : State) :
    (fixIdentity s).pending = s.pending ∧ (fixIdentity s).station = s.station ∧ (fixIdentity s).cfg = s.cfg
      ∧ (fixIdentity s).start = s.start ∧ (fixIdentity s).scanner = s.scanner ∧ (fixIdentity s).image = s.image
      ∧ (fixIdentity s).refreshPointer = s.refreshPointer ∧ (fixIdentity s).recallUnit = s.recallUnit
      ∧ (fixIdentity s).answers = s.answers ∧ (fixIdentity s).sequencer = s.sequencer ∧ (fixIdentity s).memory = s.memory
      ∧ (fixIdentity s).crescendo = s.crescendo ∧ (fixIdentity s).motion = s.motion ∧ (fixIdentity s).peers = s.peers
      ∧ (fixIdentity s).supply = s.supply ∧ (fixIdentity s).faults = s.faults ∧ (fixIdentity s).held = s.held
      ∧ (fixIdentity s).config = s.config ∧ (fixIdentity s).bases = s.bases := by
  rw [fixIdentity]; simp

/-- It changes station, start, link alone. -/
@[simp] theorem enterUnplayed_frame (n : Station) (s : State) :
    (enterUnplayed n s).pending = s.pending ∧ (enterUnplayed n s).cfg = s.cfg ∧ (enterUnplayed n s).scanner = s.scanner
      ∧ (enterUnplayed n s).image = s.image ∧ (enterUnplayed n s).refreshPointer = s.refreshPointer
      ∧ (enterUnplayed n s).recallUnit = s.recallUnit ∧ (enterUnplayed n s).answers = s.answers
      ∧ (enterUnplayed n s).sequencer = s.sequencer ∧ (enterUnplayed n s).memory = s.memory
      ∧ (enterUnplayed n s).crescendo = s.crescendo ∧ (enterUnplayed n s).motion = s.motion
      ∧ (enterUnplayed n s).peers = s.peers ∧ (enterUnplayed n s).supply = s.supply ∧ (enterUnplayed n s).faults = s.faults
      ∧ (enterUnplayed n s).held = s.held ∧ (enterUnplayed n s).config = s.config ∧ (enterUnplayed n s).bases = s.bases := by
  simp [enterUnplayed]

/-- It changes link, faults alone. -/
@[simp] theorem serviceRead_frame (n : Nat) (s : State) :
    (serviceRead n s).pending = s.pending ∧ (serviceRead n s).station = s.station ∧ (serviceRead n s).cfg = s.cfg
      ∧ (serviceRead n s).start = s.start ∧ (serviceRead n s).scanner = s.scanner ∧ (serviceRead n s).image = s.image
      ∧ (serviceRead n s).refreshPointer = s.refreshPointer ∧ (serviceRead n s).recallUnit = s.recallUnit
      ∧ (serviceRead n s).answers = s.answers ∧ (serviceRead n s).sequencer = s.sequencer
      ∧ (serviceRead n s).memory = s.memory ∧ (serviceRead n s).crescendo = s.crescendo ∧ (serviceRead n s).motion = s.motion
      ∧ (serviceRead n s).peers = s.peers ∧ (serviceRead n s).supply = s.supply ∧ (serviceRead n s).held = s.held
      ∧ (serviceRead n s).config = s.config ∧ (serviceRead n s).bases = s.bases := by
  rw [serviceRead]
  generalize newest s.memory n = o
  split
  · simp [reply]
  · cases o <;> simp [reply]

/-- It changes memory, link alone. -/
@[simp] theorem serviceWrite_frame (q l n : Nat) (x : Content) (s : State) :
    (serviceWrite q l n x s).pending = s.pending ∧ (serviceWrite q l n x s).station = s.station
      ∧ (serviceWrite q l n x s).cfg = s.cfg ∧ (serviceWrite q l n x s).start = s.start
      ∧ (serviceWrite q l n x s).scanner = s.scanner ∧ (serviceWrite q l n x s).image = s.image
      ∧ (serviceWrite q l n x s).refreshPointer = s.refreshPointer ∧ (serviceWrite q l n x s).recallUnit = s.recallUnit
      ∧ (serviceWrite q l n x s).answers = s.answers ∧ (serviceWrite q l n x s).sequencer = s.sequencer
      ∧ (serviceWrite q l n x s).crescendo = s.crescendo ∧ (serviceWrite q l n x s).motion = s.motion
      ∧ (serviceWrite q l n x s).peers = s.peers ∧ (serviceWrite q l n x s).supply = s.supply
      ∧ (serviceWrite q l n x s).faults = s.faults ∧ (serviceWrite q l n x s).held = s.held
      ∧ (serviceWrite q l n x s).config = s.config ∧ (serviceWrite q l n x s).memory.partition = s.memory.partition
      ∧ (serviceWrite q l n x s).bases = s.bases := by
  rw [serviceWrite]
  split
  · split
    · simp [reply]
    · split
      · rename_i h
        simp [writeRequest_frame h]
      · simp [reply]
  · simp [reply]

/-- It changes memory, link, faults alone. -/
@[simp] theorem serviceClear_frame (s : State) :
    (serviceClear s).pending = s.pending ∧ (serviceClear s).station = s.station ∧ (serviceClear s).cfg = s.cfg
      ∧ (serviceClear s).start = s.start ∧ (serviceClear s).scanner = s.scanner ∧ (serviceClear s).image = s.image
      ∧ (serviceClear s).refreshPointer = s.refreshPointer ∧ (serviceClear s).recallUnit = s.recallUnit
      ∧ (serviceClear s).answers = s.answers ∧ (serviceClear s).sequencer = s.sequencer
      ∧ (serviceClear s).crescendo = s.crescendo ∧ (serviceClear s).motion = s.motion ∧ (serviceClear s).peers = s.peers
      ∧ (serviceClear s).supply = s.supply ∧ (serviceClear s).held = s.held ∧ (serviceClear s).config = s.config
      ∧ (serviceClear s).memory.partition = s.memory.partition ∧ (serviceClear s).bases = s.bases := by
  simp only [serviceClear]
  generalize clearRequest s.memory = o
  split
  · by_cases hc : s.memory.clear.isNone <;> cases o <;> simp [hc, reply, State.bases]
  · simp [reply]

/-- It changes link, faults alone. -/
@[simp] theorem clash_frame (s : State) :
    (clash s).pending = s.pending ∧ (clash s).station = s.station ∧ (clash s).cfg = s.cfg ∧ (clash s).start = s.start
      ∧ (clash s).scanner = s.scanner ∧ (clash s).image = s.image ∧ (clash s).refreshPointer = s.refreshPointer
      ∧ (clash s).recallUnit = s.recallUnit ∧ (clash s).answers = s.answers ∧ (clash s).sequencer = s.sequencer
      ∧ (clash s).memory = s.memory ∧ (clash s).crescendo = s.crescendo ∧ (clash s).motion = s.motion
      ∧ (clash s).peers = s.peers ∧ (clash s).supply = s.supply ∧ (clash s).held = s.held ∧ (clash s).config = s.config
      ∧ (clash s).bases = s.bases := by
  simp [clash]

/-- It changes supply, link, faults alone. -/
@[simp] theorem enterLow1_frame (s : State) :
    (enterLow1 s).pending = s.pending ∧ (enterLow1 s).station = s.station ∧ (enterLow1 s).cfg = s.cfg
      ∧ (enterLow1 s).start = s.start ∧ (enterLow1 s).scanner = s.scanner ∧ (enterLow1 s).image = s.image
      ∧ (enterLow1 s).refreshPointer = s.refreshPointer ∧ (enterLow1 s).recallUnit = s.recallUnit
      ∧ (enterLow1 s).answers = s.answers ∧ (enterLow1 s).sequencer = s.sequencer ∧ (enterLow1 s).memory = s.memory
      ∧ (enterLow1 s).crescendo = s.crescendo ∧ (enterLow1 s).motion = s.motion ∧ (enterLow1 s).peers = s.peers
      ∧ (enterLow1 s).held = s.held ∧ (enterLow1 s).config = s.config ∧ (enterLow1 s).bases = s.bases := by
  unfold enterLow1
  split <;> simp

/-- It changes supply, link, faults, start, memory alone. -/
@[simp] theorem enterLow2_frame (s : State) :
    (enterLow2 s).pending = s.pending ∧ (enterLow2 s).station = s.station ∧ (enterLow2 s).cfg = s.cfg
      ∧ (enterLow2 s).scanner = s.scanner ∧ (enterLow2 s).image = s.image ∧ (enterLow2 s).refreshPointer = s.refreshPointer
      ∧ (enterLow2 s).recallUnit = s.recallUnit ∧ (enterLow2 s).answers = s.answers ∧ (enterLow2 s).sequencer = s.sequencer
      ∧ (enterLow2 s).crescendo = s.crescendo ∧ (enterLow2 s).motion = s.motion ∧ (enterLow2 s).peers = s.peers
      ∧ (enterLow2 s).held = s.held ∧ (enterLow2 s).config = s.config ∧ (enterLow2 s).memory.partition = s.memory.partition
      ∧ (enterLow2 s).bases = s.bases := by
  unfold enterLow2
  split <;> simp

/-- It changes supply, motion, memory alone. -/
@[simp] theorem releaseLow2_frame (s : State) :
    (releaseLow2 s).pending = s.pending ∧ (releaseLow2 s).station = s.station ∧ (releaseLow2 s).cfg = s.cfg
      ∧ (releaseLow2 s).start = s.start ∧ (releaseLow2 s).scanner = s.scanner ∧ (releaseLow2 s).image = s.image
      ∧ (releaseLow2 s).refreshPointer = s.refreshPointer ∧ (releaseLow2 s).recallUnit = s.recallUnit
      ∧ (releaseLow2 s).answers = s.answers ∧ (releaseLow2 s).sequencer = s.sequencer
      ∧ (releaseLow2 s).crescendo = s.crescendo ∧ (releaseLow2 s).link = s.link ∧ (releaseLow2 s).peers = s.peers
      ∧ (releaseLow2 s).faults = s.faults ∧ (releaseLow2 s).held = s.held ∧ (releaseLow2 s).config = s.config
      ∧ (releaseLow2 s).memory.partition = s.memory.partition ∧ (releaseLow2 s).bases = s.bases := by
  unfold releaseLow2
  split <;> simp

/-- It changes supply, motion alone. -/
@[simp] theorem releaseLow1_frame (s : State) :
    (releaseLow1 s).pending = s.pending ∧ (releaseLow1 s).station = s.station ∧ (releaseLow1 s).cfg = s.cfg
      ∧ (releaseLow1 s).start = s.start ∧ (releaseLow1 s).scanner = s.scanner ∧ (releaseLow1 s).image = s.image
      ∧ (releaseLow1 s).refreshPointer = s.refreshPointer ∧ (releaseLow1 s).recallUnit = s.recallUnit
      ∧ (releaseLow1 s).answers = s.answers ∧ (releaseLow1 s).sequencer = s.sequencer ∧ (releaseLow1 s).memory = s.memory
      ∧ (releaseLow1 s).crescendo = s.crescendo ∧ (releaseLow1 s).link = s.link ∧ (releaseLow1 s).peers = s.peers
      ∧ (releaseLow1 s).faults = s.faults ∧ (releaseLow1 s).held = s.held ∧ (releaseLow1 s).config = s.config
      ∧ (releaseLow1 s).bases = s.bases := by
  unfold releaseLow1
  split <;> simp

/-- It changes supply, link, faults, start, memory, motion alone. -/
@[simp] theorem compareSupply_frame (mv : Nat) (s : State) :
    (compareSupply mv s).pending = s.pending ∧ (compareSupply mv s).station = s.station ∧ (compareSupply mv s).cfg = s.cfg
      ∧ (compareSupply mv s).scanner = s.scanner ∧ (compareSupply mv s).image = s.image
      ∧ (compareSupply mv s).refreshPointer = s.refreshPointer ∧ (compareSupply mv s).recallUnit = s.recallUnit
      ∧ (compareSupply mv s).answers = s.answers ∧ (compareSupply mv s).sequencer = s.sequencer
      ∧ (compareSupply mv s).crescendo = s.crescendo ∧ (compareSupply mv s).peers = s.peers
      ∧ (compareSupply mv s).held = s.held ∧ (compareSupply mv s).config = s.config
      ∧ (compareSupply mv s).memory.partition = s.memory.partition ∧ (compareSupply mv s).bases = s.bases := by
  simp only [compareSupply]
  repeat' split
  all_goals simp

/-- It changes supply, link, faults, start, memory, motion alone. -/
@[simp] theorem supplyEvent_frame (b : Bool) (mv : Nat) (s : State) :
    (supplyEvent b mv s).pending = s.pending ∧ (supplyEvent b mv s).station = s.station ∧ (supplyEvent b mv s).cfg = s.cfg
      ∧ (supplyEvent b mv s).scanner = s.scanner ∧ (supplyEvent b mv s).image = s.image
      ∧ (supplyEvent b mv s).refreshPointer = s.refreshPointer ∧ (supplyEvent b mv s).recallUnit = s.recallUnit
      ∧ (supplyEvent b mv s).answers = s.answers ∧ (supplyEvent b mv s).sequencer = s.sequencer
      ∧ (supplyEvent b mv s).crescendo = s.crescendo ∧ (supplyEvent b mv s).peers = s.peers
      ∧ (supplyEvent b mv s).held = s.held ∧ (supplyEvent b mv s).config = s.config
      ∧ (supplyEvent b mv s).memory.partition = s.memory.partition ∧ (supplyEvent b mv s).bases = s.bases := by
  unfold supplyEvent
  split <;> simp

/-- It changes motion, faults alone. -/
@[simp] theorem acknowledge_frame (s : State) :
    (acknowledge s).pending = s.pending ∧ (acknowledge s).station = s.station ∧ (acknowledge s).cfg = s.cfg
      ∧ (acknowledge s).start = s.start ∧ (acknowledge s).scanner = s.scanner ∧ (acknowledge s).image = s.image
      ∧ (acknowledge s).refreshPointer = s.refreshPointer ∧ (acknowledge s).recallUnit = s.recallUnit
      ∧ (acknowledge s).answers = s.answers ∧ (acknowledge s).sequencer = s.sequencer ∧ (acknowledge s).memory = s.memory
      ∧ (acknowledge s).crescendo = s.crescendo ∧ (acknowledge s).link = s.link ∧ (acknowledge s).peers = s.peers
      ∧ (acknowledge s).supply = s.supply ∧ (acknowledge s).held = s.held ∧ (acknowledge s).config = s.config
      ∧ (acknowledge s).bases = s.bases := by
  simp only [acknowledge]
  repeat' split
  all_goals simp

/-- It changes station, image, link, motion, recallUnit, faults, answers, memory, crescendo, sequencer alone. -/
@[simp] theorem handPress_frame (f : LineFunction) (s : State) :
    (handPress f s).pending = s.pending ∧ (handPress f s).cfg = s.cfg ∧ (handPress f s).start = s.start
      ∧ (handPress f s).scanner = s.scanner ∧ (handPress f s).refreshPointer = s.refreshPointer
      ∧ (handPress f s).peers = s.peers ∧ (handPress f s).supply = s.supply ∧ (handPress f s).held = s.held
      ∧ (handPress f s).config = s.config ∧ (handPress f s).memory.partition = s.memory.partition
      ∧ (handPress f s).bases = s.bases := by
  cases f <;> simp [handPress]

/-- It changes station, image, link, motion, recallUnit, faults, answers, memory, crescendo, sequencer alone. -/
@[simp] theorem handRelease_frame (f : LineFunction) (s : State) :
    (handRelease f s).pending = s.pending ∧ (handRelease f s).cfg = s.cfg ∧ (handRelease f s).start = s.start
      ∧ (handRelease f s).scanner = s.scanner ∧ (handRelease f s).refreshPointer = s.refreshPointer
      ∧ (handRelease f s).peers = s.peers ∧ (handRelease f s).supply = s.supply ∧ (handRelease f s).held = s.held
      ∧ (handRelease f s).config = s.config ∧ (handRelease f s).memory.partition = s.memory.partition
      ∧ (handRelease f s).bases = s.bases := by
  cases f <;> simp [handRelease]

/-- It changes station, image, link, motion, recallUnit, faults, answers, memory, crescendo, sequencer alone. -/
@[simp] theorem handChange_frame (f : LineFunction) (v : Bool) (s : State) :
    (handChange f v s).pending = s.pending ∧ (handChange f v s).cfg = s.cfg ∧ (handChange f v s).start = s.start
      ∧ (handChange f v s).scanner = s.scanner ∧ (handChange f v s).refreshPointer = s.refreshPointer
      ∧ (handChange f v s).peers = s.peers ∧ (handChange f v s).supply = s.supply ∧ (handChange f v s).held = s.held
      ∧ (handChange f v s).config = s.config ∧ (handChange f v s).memory.partition = s.memory.partition
      ∧ (handChange f v s).bases = s.bases := by
  rw [handChange]
  repeat' split
  all_goals simp

/-- It changes scanner alone. -/
@[simp] theorem qualify_frame (n : Nat) (v : Bool) (s : State) :
    (qualify n v s).pending = s.pending ∧ (qualify n v s).station = s.station ∧ (qualify n v s).cfg = s.cfg
      ∧ (qualify n v s).start = s.start ∧ (qualify n v s).image = s.image ∧ (qualify n v s).refreshPointer = s.refreshPointer
      ∧ (qualify n v s).recallUnit = s.recallUnit ∧ (qualify n v s).answers = s.answers
      ∧ (qualify n v s).sequencer = s.sequencer ∧ (qualify n v s).memory = s.memory ∧ (qualify n v s).crescendo = s.crescendo
      ∧ (qualify n v s).motion = s.motion ∧ (qualify n v s).link = s.link ∧ (qualify n v s).peers = s.peers
      ∧ (qualify n v s).supply = s.supply ∧ (qualify n v s).faults = s.faults ∧ (qualify n v s).held = s.held
      ∧ (qualify n v s).config = s.config ∧ (qualify n v s).bases = s.bases := by
  simp [qualify]

/-- It changes station, image, link, motion, recallUnit, faults, answers, memory, crescendo, sequencer, scanner alone. -/
@[simp] theorem lineEvent_frame (p : LineFunction → Bool) (n : Nat) (v : Bool) (s : State) :
    (lineEvent p n v s).pending = s.pending ∧ (lineEvent p n v s).cfg = s.cfg ∧ (lineEvent p n v s).start = s.start
      ∧ (lineEvent p n v s).refreshPointer = s.refreshPointer ∧ (lineEvent p n v s).peers = s.peers
      ∧ (lineEvent p n v s).supply = s.supply ∧ (lineEvent p n v s).held = s.held ∧ (lineEvent p n v s).config = s.config
      ∧ (lineEvent p n v s).memory.partition = s.memory.partition ∧ (lineEvent p n v s).bases = s.bases := by
  unfold lineEvent
  split <;> simp

/-- It changes scanner alone. -/
@[simp] theorem qualifyFunction_frame (f : LineFunction) (v : Bool) (s : State) :
    (qualifyFunction f v s).pending = s.pending ∧ (qualifyFunction f v s).station = s.station
      ∧ (qualifyFunction f v s).cfg = s.cfg ∧ (qualifyFunction f v s).start = s.start
      ∧ (qualifyFunction f v s).image = s.image ∧ (qualifyFunction f v s).refreshPointer = s.refreshPointer
      ∧ (qualifyFunction f v s).recallUnit = s.recallUnit ∧ (qualifyFunction f v s).answers = s.answers
      ∧ (qualifyFunction f v s).sequencer = s.sequencer ∧ (qualifyFunction f v s).memory = s.memory
      ∧ (qualifyFunction f v s).crescendo = s.crescendo ∧ (qualifyFunction f v s).motion = s.motion
      ∧ (qualifyFunction f v s).link = s.link ∧ (qualifyFunction f v s).peers = s.peers
      ∧ (qualifyFunction f v s).supply = s.supply ∧ (qualifyFunction f v s).faults = s.faults
      ∧ (qualifyFunction f v s).held = s.held ∧ (qualifyFunction f v s).config = s.config
      ∧ (qualifyFunction f v s).bases = s.bases := by
  unfold qualifyFunction
  split <;> simp

/-- It changes crescendo, link, faults alone. -/
@[simp] theorem handPair_frame (s : State) :
    (handPair s).pending = s.pending ∧ (handPair s).station = s.station ∧ (handPair s).cfg = s.cfg
      ∧ (handPair s).start = s.start ∧ (handPair s).scanner = s.scanner ∧ (handPair s).image = s.image
      ∧ (handPair s).refreshPointer = s.refreshPointer ∧ (handPair s).recallUnit = s.recallUnit
      ∧ (handPair s).answers = s.answers ∧ (handPair s).sequencer = s.sequencer ∧ (handPair s).memory = s.memory
      ∧ (handPair s).motion = s.motion ∧ (handPair s).peers = s.peers ∧ (handPair s).supply = s.supply
      ∧ (handPair s).held = s.held ∧ (handPair s).config = s.config ∧ (handPair s).bases = s.bases := by
  simp [handPair]

/-- It changes scanner alone. -/
@[simp] theorem sampleLines_frame (m : Nat) (b : Byte) (s : State) :
    (sampleLines m b s).pending = s.pending ∧ (sampleLines m b s).station = s.station ∧ (sampleLines m b s).cfg = s.cfg
      ∧ (sampleLines m b s).start = s.start ∧ (sampleLines m b s).image = s.image
      ∧ (sampleLines m b s).refreshPointer = s.refreshPointer ∧ (sampleLines m b s).recallUnit = s.recallUnit
      ∧ (sampleLines m b s).answers = s.answers ∧ (sampleLines m b s).sequencer = s.sequencer
      ∧ (sampleLines m b s).memory = s.memory ∧ (sampleLines m b s).crescendo = s.crescendo
      ∧ (sampleLines m b s).motion = s.motion ∧ (sampleLines m b s).link = s.link ∧ (sampleLines m b s).peers = s.peers
      ∧ (sampleLines m b s).supply = s.supply ∧ (sampleLines m b s).faults = s.faults ∧ (sampleLines m b s).held = s.held
      ∧ (sampleLines m b s).config = s.config ∧ (sampleLines m b s).bases = s.bases := by
  simp [sampleLines]

end Sys2Proof.Machine
end

