-- ==== Sys2Proof/Laws/Blocks.lean ====
section
/-!
SUPPORT. What each shared operation does, said once, in the terms of Safety.lean.
-/

namespace Sys2Proof.Machine

open Sys2Proof.Safety

variable (s : State)

/-! ### Frames, faults and answers -/

/-- A routine frame handed (R138, R145). -/
theorem handOver_routine (f : Frame) (h : isUrgent f = false) : handOver f s = { s with link := handedRoutine s f } := by
  unfold handOver handedRoutine linkHanded
  simp only [h]
  split <;> rfl

/-- An urgent frame handed in a state that takes hand-overs (R138). -/
theorem handOver_urgent (f : Frame) (h : isUrgent f = true) (hs : s.station.takesHandOvers = true) :
    handOver f s = { s with link := { s.link with urgent := waitingWith s.link.urgent f } } := by
  simp only [handOver, hs, if_true, linkHanded, h]
  rfl

/-- A report latches the kind and hands its notice where the route has it (R158, R160). -/
theorem latch_reported (k : FaultKind) : latch k s = reported k s := by
  have h := handOver_routine (s.setFaults (s.faults ||| faultBit k)) (.faultNotice k) rfl
  simp only [latch, reported, State.routes, h]
  split <;> rfl

/-- A report that depends on a condition. -/
theorem latchIf_reported (b : Bool) (k : FaultKind) : latchIf b k s = if b then reported k s else s := by
  rw [latchIf, latch_reported]

/-- A reading block reports a failed check (R47). -/
theorem noteReads_afterReads (slots : List Nat) : noteReads slots s = afterReads slots s := latchIf_reported s _ _

/-- A lamp answer (R44). -/
theorem answer_answered (l : Lamp) (n : Nat) : answer l n s = { s with answers := answered s l n } := rfl

/-- A refusal is answered by the Set lamp (R35). -/
theorem refuse_answered : refuse s = { s with answers := answered s .set 3 } := rfl

/-- A service reply (R169). -/
theorem reply_replied (request slot : Nat) (result : ReplyResult) (content : Option Content) :
    reply request slot result content s = replied s request slot result content :=
  handOver_routine s _ rfl

/-! ### Writes -/

/-- A write begins where the conditions hold (R58, R65). -/
theorem beginWrite_begun : beginWrite s = { s with memory := begun s.supply.low2 s.memory } := by
  unfold beginWrite begun nextWrite nextFlight headWrite
  cases h : s.memory.flight <;> cases h2 : s.supply.low2 <;> simp
  · rfl
  · simp [← h]
  · simp [← h]
  · simp [← h]

/-- A request is taken whole where the queue has the entries and the station is not restarting, and refused otherwise (R57, R61). -/
theorem writeRequest_eq (r : List WriteEntry) :
    writeRequest r s = if s.station ≠ .restarting ∧ admits s.memory r = true then some { s with memory := written s r } else none := by
  unfold writeRequest written
  rw [beginWrite_begun]
  rfl

/-- The queue takes a request exactly where its slots have room (R57). -/
theorem admits_iff (r : List WriteEntry) : admits s.memory r = true ↔ roomFor s (r.map (·.slot)) := by
  simp only [admits, roomFor, decide_eq_true_eq, List.filter_map, List.length_map]
  rfl

/-- A request that is taken. -/
theorem writeRequest_taken {r : List WriteEntry} (h : s.station ≠ .restarting) (hr : roomFor s (r.map (·.slot))) :
    writeRequest r s = some { s with memory := written s r } := by
  rw [writeRequest_eq, if_pos ⟨h, (admits_iff s r).2 hr⟩]

/-- A request that is refused. -/
theorem writeRequest_refused {r : List WriteEntry} (hr : ¬ roomFor s (r.map (·.slot))) : writeRequest r s = none := by
  rw [writeRequest_eq, if_neg fun h => hr ((admits_iff s r).1 h.2)]

/-! ### Motion -/

/-- Pulses start as R107 allows. -/
theorem judgePulses_judged : judgePulses s = { s with motion := judged s s.motion } := by
  have hk : s.motion.queue.take (startable s s.motion.energized s.motion.queue.length) = s.motion.queue.take s.pulsesNow := by
    rw [List.take_eq_take_iff]
    unfold startable State.pulsesNow State.budget
    split
    · omega
    · simp
  have hd : s.motion.queue.drop (startable s s.motion.energized s.motion.queue.length) = s.motion.queue.drop s.pulsesNow := by
    unfold startable State.pulsesNow State.budget
    split
    · rw [List.drop_eq_drop_iff]; omega
    · simp
  have hl : startable s s.motion.energized s.motion.queue.length = (s.motion.queue.take s.pulsesNow).length := by
    unfold startable State.pulsesNow State.budget
    split
    · simp only [List.length_take]; omega
    · simp
  simp only [judgePulses, State.setMotion, judged, Motion.startPulses, hk, hd]
  rw [← hl]
  simp [MotionRecord.drive]

/-- Records pass through f, and pulses start (R105, R107). -/
theorem moveRecords_judged (f : MotionRecord → MotionRecord) :
    moveRecords f s = { s with motion := judged s (s.motion.update f) } := by
  rw [moveRecords, judgePulses_judged]
  rfl

/-- The start of pulses touches no field of a record but state, window and coil (R108). -/
theorem judged_records {α : Type} (m : Motion) (g : MotionRecord → α)
    (hg : ∀ r st w c, g { r with state := st, window := w, coil := c } = g r) : (judged s m).records.map g = m.records.map g := by
  simp only [judged, List.map_map]
  refine List.map_congr_left fun r _ => ?_
  by_cases h : r.key ∈ m.queue.take (startable s m.energized m.queue.length)
  · simp only [Function.comp, if_pos h, hg]
  · simp only [Function.comp, if_neg h]

/-- Passing records through f and starting pulses keeps each record's control, and its other fields as f gives them but for
state, window and coil. -/
theorem moveRecords_records {α : Type} (f : MotionRecord → MotionRecord) (g : MotionRecord → α)
    (hg : ∀ r st w c, g { r with state := st, window := w, coil := c } = g r) :
    (moveRecords f s).motion.records.map g = s.motion.records.map fun r => g (f r) := by
  rw [moveRecords_judged]
  show (judged s (s.motion.update f)).records.map g = _
  rw [judged_records s _ g hg, Motion.update, List.map_map]
  rfl

/-- A new target touches no control, sense or coil (R106). -/
@[simp] theorem setTarget_fields (r : MotionRecord) (v : Bool) :
    (r.setTarget v).d = r.d ∧ (r.setTarget v).i = r.i ∧ (r.setTarget v).sensed = r.sensed ∧ (r.setTarget v).target = v
      ∧ (r.setTarget v).coil = r.coil := by
  unfold MotionRecord.setTarget
  split
  · simp_all
  · unfold MotionRecord.settleState
    repeat' split
    all_goals simp

/-! ### Local changes (R5, R6, R16) -/

/-- The queue after a hand-over holds the frame (R138). -/
theorem mem_waitingWith_self (q : List Frame) (f : Frame) : f ∈ waitingWith q f := by
  unfold waitingWith
  split
  · rename_i h
    obtain ⟨g, hg, hk⟩ := List.any_eq_true.1 h
    exact List.mem_map.2 ⟨g, hg, by simp [beq_iff_eq.1 hk]⟩
  · simp

/-- A hand-over leaves the waiting frames of every other key (R138). -/
theorem mem_waitingWith_other {q : List Frame} {f g : Frame} (h : frameKey g ≠ frameKey f) : g ∈ waitingWith q f ↔ g ∈ q := by
  unfold waitingWith
  split
  · constructor
    · intro hm
      obtain ⟨x, hx, hxe⟩ := List.mem_map.1 hm
      by_cases hk : frameKey x = frameKey f
      · rw [if_pos hk] at hxe
        exact absurd (by rw [hxe]) h
      · rw [if_neg hk] at hxe
        rwa [← hxe]
    · exact fun hm => List.mem_map.2 ⟨g, hm, if_neg h⟩
  · simp only [List.mem_append, List.mem_singleton, or_iff_left_iff_imp]
    rintro rfl
    exact absurd rfl h

/-- What a hand-over makes wait is the frame handed or a frame that waited. -/
theorem of_mem_waitingWith {q : List Frame} {f g : Frame} (h : g ∈ waitingWith q f) : g = f ∨ g ∈ q := by
  by_cases hk : frameKey g = frameKey f
  · unfold waitingWith at h
    split at h
    · obtain ⟨x, hx, rfl⟩ := List.mem_map.1 h
      split
      · exact .inl rfl
      · exact .inr hx
    · simpa [or_comm] using h
  · exact .inr ((mem_waitingWith_other hk).1 h)

/-- One division of a local change. -/
theorem changeDivision_eq (x : Nat × StopSet) (hs : s.station.takesHandOvers = true) :
    changeDivision s x =
      { s with
        image := s.image.set x.1
          { drawn := s.config.restrict x.1 x.2, stamp := successor s.link.number (s.division x.1).stamp }
        link := { s.link with
          urgent := waitingWith s.link.urgent
            (.registrationChange x.1 (successor s.link.number (s.division x.1).stamp) (s.config.restrict x.1 x.2)) } } := by
  have h := handOver_urgent (s.setImage (s.image.set x.1
    { drawn := s.config.restrict x.1 x.2, stamp := successor s.link.number (s.division x.1).stamp }))
    (.registrationChange x.1 (successor s.link.number (s.division x.1).stamp) (s.config.restrict x.1 x.2)) rfl hs
  exact h

/-- No change leaves every division. -/
@[simp] theorem changedDivision_nil (c : Configuration) (own d : Nat) : changedDivision c own [] d = id := rfl

/-- One division of a local change, said of the whole change: its frame is the change's frame of that division. -/
theorem changeDivision_frame (x : Nat × StopSet) (cs : List (Nat × StopSet)) (hs : s.station.takesHandOvers = true) :
    changeDivision s x =
      { s with
        image := s.image.set x.1
          { drawn := s.config.restrict x.1 x.2, stamp := successor s.link.number (s.division x.1).stamp }
        link := { s.link with urgent := waitingWith s.link.urgent (changeFrame s (x :: cs) x.1) } } := by
  rw [changeDivision_eq s x hs]
  simp only [changeFrame, changedDivision, List.find?_cons, beq_self_eq_true]
  rfl

/-- The station after the divisions of a local change were changed one after another (R6). -/
theorem changeDivisions_eq (cs : List (Nat × StopSet)) (hs : s.station.takesHandOvers = true) (hn : (cs.map Prod.fst).Nodup) :
    cs.foldl changeDivision s =
      { s with
        image := s.image.mapIdx (changedDivision s.config s.link.number cs)
        link := { s.link with urgent := cs.foldl (fun q x => waitingWith q (changeFrame s cs x.1)) s.link.urgent } } := by
  induction cs generalizing s with
  | nil =>
    ext1
    all_goals try rfl
    refine List.ext_getElem? fun k => ?_
    simp
  | cons x cs ih =>
    rw [List.map_cons, List.nodup_cons] at hn
    have hx : ∀ y ∈ cs, y.1 ≠ x.1 := fun y hy h => hn.1 (List.mem_map.2 ⟨y, hy, h⟩)
    have hu := changeDivision_frame s x cs hs
    have hnone : cs.find? (fun y => y.1 == x.1) = none := by
      rw [List.find?_eq_none]
      intro y hy
      simpa using hx y hy
    have hother : ∀ k, k ≠ x.1 → ∀ v, changedDivision s.config s.link.number (x :: cs) k v =
        changedDivision s.config s.link.number cs k v := by
      intro k hk v
      simp [changedDivision, Ne.symm hk]
    rw [List.foldl_cons, ih (changeDivision s x) (by rw [hu]; exact hs) hn.2]
    generalize ht : changeDivision s x = t at hu
    have hc : t.config = s.config := by rw [hu]; rfl
    have hnum : t.link.number = s.link.number := by rw [hu]
    have himg : t.image = s.image.set x.1
        { drawn := s.config.restrict x.1 x.2, stamp := successor s.link.number (s.division x.1).stamp } := by rw [hu]
    have hframe : ∀ y ∈ cs, changeFrame t cs y.1 = changeFrame s (x :: cs) y.1 := by
      intro y hy
      have hk := hx y hy
      simp only [changeFrame, hc, hnum, hother y.1 hk, himg, List.getD_eq_getElem?_getD, List.getElem?_set_ne hk.symm]
    have hfold : ∀ (l : List (Nat × StopSet)) (q : List Frame), (∀ y ∈ l, y ∈ cs) →
        l.foldl (fun q y => waitingWith q (changeFrame t cs y.1)) q =
          l.foldl (fun q y => waitingWith q (changeFrame s (x :: cs) y.1)) q := by
      intro l
      induction l with
      | nil => intros; rfl
      | cons y l ihl =>
        intro q hl
        rw [List.foldl_cons, List.foldl_cons, hframe y (hl y (by simp)), ihl _ fun z hz => hl z (by simp [hz])]
    have hi : t.image.mapIdx (changedDivision t.config t.link.number cs) =
        s.image.mapIdx (changedDivision s.config s.link.number (x :: cs)) := by
      refine List.ext_getElem? fun k => ?_
      rw [hc, hnum, List.getElem?_mapIdx, List.getElem?_mapIdx, himg]
      by_cases hk : k = x.1
      · subst hk
        rw [List.getElem?_set]
        cases hv : s.image[x.1]? with
        | none =>
          have : ¬ x.1 < s.image.length := by simpa using hv
          simp [this]
        | some v =>
          have hlt : x.1 < s.image.length := (List.getElem?_eq_some_iff.1 hv).1
          have hdiv : s.division x.1 = v := by simp [State.division, List.getD_eq_getElem?_getD, hv]
          simp [hlt, hdiv, changedDivision, hnone, successor, nextEra, Configuration.restrict]
      · rw [List.getElem?_set_ne (Ne.symm hk)]
        cases s.image[k]? with
        | none => rfl
        | some v => simp [hother k hk v]
    rw [hi, hfold cs _ fun _ h => h, hu]
    rfl

/-- A new target, said of the record's own fields (R106). -/
theorem setTarget_retargeted (r : MotionRecord) (v : Bool) : r.setTarget v = retargeted v r := by
  unfold MotionRecord.setTarget retargeted
  split
  · rfl
  · obtain ⟨d, i, target, sensed, state, retry, window, coil⟩ := r
    cases state <;> cases sensed <;> cases v <;> simp [MotionRecord.settleState]

/-- Records pass through f, the queue follows, and pulses start (R105 to R107). -/
theorem moveRecords_after (f : MotionRecord → MotionRecord) : moveRecords f s = { s with motion := motionAfter s f } :=
  moveRecords_judged s f

/-- The drawn set of a division, read from the image. -/
theorem drawn_getD (d : Nat) : s.drawn d = (s.image[d]?.map Division.drawn).getD 0#48 := by
  unfold State.drawn
  cases s.image[d]? <;> rfl

/-- A local change in a state that takes hand-overs (R5, R6, R16). -/
theorem localChange_changedBy (cs : List (Nat × StopSet)) (hs : s.station.takesHandOvers = true) (hn : (cs.map Prod.fst).Nodup) :
    localChange cs s = changedBy cs s := by
  unfold localChange changedBy
  by_cases h : cs = []
  · simp [h]
  · rw [if_neg h, if_neg (by simpa using h), imageChanged, changeDivisions_eq s cs hs hn, moveRecords_after]
    have hc : ∀ d, (cs.map Prod.fst).contains d = cs.any fun x => x.1 == d := by
      intro d
      rw [Bool.eq_iff_iff, List.contains_iff_mem, List.mem_map, List.any_eq_true]
      simp
    simp only [hc, setTarget_retargeted]
    simp only [drawn_getD]
    rfl

end Sys2Proof.Machine
end

