-- ==== Sys2Proof/Laws/Events.lean ====
section
/-!
SUPPORT. What the events of the blocks do, in the terms of Safety.lean: additions, the stage, recalls, cancels, and the changes of
the station state.
-/

namespace Sys2Proof.Machine

open Sys2Proof.Safety

variable (s : State)

/-- A state of play takes hand-overs (R145). -/
theorem takesHandOvers_of_inPlay {st : Station} (h : st.inPlay = true) : st.takesHandOvers = true := by
  cases st <;> simp_all [Station.inPlay, Station.takesHandOvers]

/-- Forming the effective additions in a state of play (R97). -/
theorem formEffective_eq (h : s.station.inPlay = true) :
    formEffective s = { s with crescendo := { s.crescendo with effective := s.formedEffective } } := by
  rw [formEffective, if_pos h]
  rfl

/-- A crescendo frame announced in a state that takes hand-overs (R95, R138). -/
theorem announceCrescendo_eq (h : s.station.takesHandOvers = true) :
    announceCrescendo s = { s with link := linkAnnounced s.link s.crescendoContent } := by
  simp only [announceCrescendo, handOver_urgent s (.crescendo s.crescendoContent) rfl h]
  rfl

/-- A reading block changes the faults and the link alone. -/
theorem afterReads_eq (slots : List Nat) :
    afterReads slots s = { s with faults := (afterReads slots s).faults, link := (afterReads slots s).link } := by
  unfold afterReads
  split <;> rfl

/-- The additions formed anew in a state of play (R94, R95, R97). -/
theorem formAdditions_formed (old : CrescendoUnit) (h : s.station.inPlay = true) :
    AdditionsFormed old s (formAdditions old s) := by
  unfold AdditionsFormed
  dsimp only
  have hv := afterReads_eq s s.additionSlots
  simp only [formAdditions, noteReads_afterReads, sameAnnouncement]
  generalize hx : s.formedAdditions = x
  generalize ha : afterReads s.additionSlots s = v at *
  have hst : v.station = s.station := by rw [hv]
  have hcr : v.crescendo = s.crescendo := by rw [hv]
  have hcfg : v.cfg = s.cfg := by rw [hv]
  by_cases hsame : old.program = s.crescendo.program ∧ old.stage = s.crescendo.stage ∧ old.tutti = s.crescendo.tutti
      ∧ old.localAdditions = x
  · have hb : (old.program == v.crescendo.program && old.stage == v.crescendo.stage && old.tutti == v.crescendo.tutti
        && old.localAdditions == x) = true := by simp [hcr, hsame]
    simp only [State.setCrescendo_crescendo, hb, if_true]
    rw [if_pos hsame, formEffective_eq _ (by simpa [hst] using h)]
    refine ⟨?_, rfl⟩
    simp [State.setCrescendo, hcr]
  · have hb : (old.program == v.crescendo.program && old.stage == v.crescendo.stage && old.tutti == v.crescendo.tutti
        && old.localAdditions == x) = false := by
      rw [Bool.eq_false_iff]
      intro hb
      simp [hcr] at hb
      exact hsame ⟨hb.1.1.1, hb.1.1.2, hb.1.2, hb.2⟩
    simp only [State.setCrescendo_crescendo, hb, if_neg hsame]
    rw [announceCrescendo_eq _ (by simpa [hst] using takesHandOvers_of_inPlay h)]
    have hann : (v.setCrescendo { v.crescendo with localAdditions := x }).crescendoContent = announcement s x := by
      simp [State.crescendoContent, announcement, hcr, State.divisionCount, State.config, hcfg]
    simp only [Bool.false_eq_true, if_false]
    rw [formEffective_eq _ (by simpa [hst] using h), hann]
    refine ⟨?_, rfl⟩
    simp [State.setCrescendo, hcr]

/-- The stage evaluated in Awake (R86, R87). -/
theorem evaluateStage_evaluated (h : s.station = .awake) : StageEvaluated s (evaluateStage s) := by
  unfold StageEvaluated evaluateStage
  dsimp only
  by_cases hh : s.crescendo.held = true
  · simp [hh]
  · by_cases hc : selectStage s.config (calibrated s.config s.crescendo.count) s.crescendo.stage = s.crescendo.stage
    · simp [hc]
    · simp only [hh, hc, if_false]
      exact formAdditions_formed _ _ (by simp [h, Station.inPlay])

/-- A set unpacked from a content (R174). -/
theorem setAt_unpackSets (c : Content) (i : Nat) {d : Nat} (h : d < 8) :
    setAt (unpackSets c i) d = c.extractLsb' (8 * (i + 6 * d)) 48 := by
  simp [setAt, unpackSets, setsOf, List.getD_eq_getElem?_getD, h, Content.stopSet]

/-- The divisions a record's content asserts (R24, R174). -/
theorem recallChanges_recordOf (c : Content) (hd : s.divisionCount ≤ 8) : recallChanges s (recordOf c) = assertedBy s c := by
  unfold recallChanges assertedBy Configuration.divisionsIn
  have hf : (List.range s.config.layout.divisions).filter (fun d => (recordOf c).scope.getLsbD d)
      = (List.range s.divisionCount).filter fun d => c.getLsbD d := by
    refine List.filter_congr fun d h => ?_
    have : d < 8 := by
      have := List.mem_range.1 h
      unfold State.divisionCount at hd
      omega
    simp [recordOf, Content.byte, this]
  rw [hf]
  refine List.map_congr_left fun d h => ?_
  have : d < 8 := by
    have := List.mem_range.1 (List.mem_filter.1 h).1
    omega
  rw [show (recordOf c).sets = unpackSets c 1 from rfl, setAt_unpackSets c 1 this, show 8 * (1 + 6 * d) = 8 + 48 * d by omega]

/-- The divisions of a local change made of a list of divisions. -/
theorem nodup_changes (l : List Nat) (h : l.Nodup) (f : Nat → StopSet) : ((l.map fun d => (d, f d)).map Prod.fst).Nodup := by
  simpa [List.map_map, Function.comp_def] using h

/-- The record a content holds, as Safety.lean reads it. -/
theorem recordOf_recordIn (c : Content) : recordOf c = recordIn c := by
  simp only [recordOf, recordIn, unpackSets, setsOf, Content.byte, Content.stopSet]
  have h : ∀ d, 8 * (1 + 6 * d) = 8 + 48 * d := fun d => by omega
  simp only [h]

/-- The slot of a piston of the current level (R51). -/
theorem slotOfPiston_eq (p : Piston) : State.slotOfPiston s p = Safety.slotOfPiston s p := by
  cases p <;> rfl

/-- A local change does not look at the Recall Unit. -/
theorem changedBy_recallUnit (cs : List (Nat × StopSet)) (r : RecallUnit) :
    changedBy cs { s with recallUnit := r } = { changedBy cs s with recallUnit := r } := by
  unfold changedBy
  split <;> rfl

/-- A local change leaves the Crescendo Unit and the station state. -/
@[simp] theorem changedBy_frame (cs : List (Nat × StopSet)) :
    (changedBy cs s).crescendo = s.crescendo ∧ (changedBy cs s).station = s.station := by
  unfold changedBy
  split <;> exact ⟨rfl, rfl⟩

/-- A piston recalled or refused in Awake (R24 to R27). -/
theorem recallPiston_recalled (p : Piston) (hs : s.station.takesHandOvers = true) (hd : s.divisionCount ≤ 8) :
    Recalled p s (recallPiston p s) := by
  unfold Recalled
  rw [recallPiston, slotOfPiston_eq]
  generalize newest s.memory (Safety.slotOfPiston s p) = o
  cases o with
  | none => rw [latch_reported]; rfl
  | some c =>
    simp only
    rw [recallChanges_recordOf s c hd]
    have hn : ((assertedBy s c).map Prod.fst).Nodup := nodup_changes _ (List.nodup_range.filter _) _
    rw [localChange_changedBy _ _ (by simpa using hs) hn, setLive, State.setRecallUnit, changedBy_recallUnit, recordOf_recordIn]

/-- A cancel of every division in a state of play (R29). -/
theorem cancelAll_cancelled (hs : s.station.inPlay = true) : Cancelled s (cancelAll s) := by
  have hn : ((allEmpty s).map Prod.fst).Nodup := nodup_changes _ List.nodup_range _
  have he := localChange_changedBy s _ (takesHandOvers_of_inPlay hs) hn
  refine ⟨setTutti false (changedBy (allEmpty s) s), ?_, by rw [← he]; rfl⟩
  unfold setTutti
  rw [(changedBy_frame s _).1]
  by_cases ht : s.crescendo.tutti = true
  · simp only [ht]
    exact formAdditions_formed ((changedBy (allEmpty s) s).setCrescendo { s.crescendo with tutti := false }) s.crescendo
      (by simpa using hs)
  · simp [ht]

/-! ### Changes of the station state -/

/-- A record as its station leaves Awake. -/
theorem standAside_asideRecord : MotionRecord.standAside = asideRecord := by
  funext r
  unfold MotionRecord.standAside asideRecord
  cases r.coil <;> simp

/-- The drained report (R61). -/
theorem reportDrained_start : (reportDrained s).start =
    { s.start with drained := if s.station = .restarting ∧ s.memory.queue = [] ∧ s.memory.flight = none then true else s.start.drained } := by
  unfold reportDrained
  split <;> rfl

/-- The report that no coil is energized (R118). -/
theorem reportNoCoil_start : (reportNoCoil s).start =
    { s.start with noCoil := if s.station = .restarting ∧ s.motion.energized = 0 then true else s.start.noCoil } := by
  unfold reportNoCoil
  split <;> rfl

/-- The memory after the entries not yet begun were discarded under Low2 in Restarting (R61). -/
theorem discardWaiting_memory : (discardWaiting s).memory =
    { s.memory with
      queue := if s.station = .restarting ∧ s.supply.low2 then s.memory.queue.take s.memory.begun else s.memory.queue } := by
  unfold discardWaiting
  split <;> rfl

/-- The memory after the conditions of a write were judged (R58). -/
theorem beginWrite_memory : (beginWrite s).memory = begun s.supply.low2 s.memory := by
  rw [beginWrite_begun]

/-- An entry into Dormant (R21, R80, R116, R155). -/
theorem enterDormant_entered : DormantEntered s (enterDormant s) := by
  have hp : formEffective (dropCounts (standRecordsAside (s.setStation .dormant))) =
      { s with
        station := .dormant
        recallUnit := countsDropped s
        motion := { s.motion with records := s.motion.records.map asideRecord, queue := [] }
        crescendo := { s.crescendo with effective :=
          (dropCounts (standRecordsAside (s.setStation .dormant))).formedEffective } } := by
    rw [formEffective_eq _ (by simp [Station.inPlay])]
    ext1
    all_goals simp [dropCounts, standRecordsAside, countsDropped, standAside_asideRecord, State.divisionCount]
  unfold DormantEntered
  dsimp only
  rw [enterDormant, hp]
  have he : ∀ v : MemoryController, State.formedEffective { s with
      station := .dormant, memory := v } = (dropCounts (standRecordsAside (s.setStation .dormant))).formedEffective :=
    fun _ => rfl
  generalize (dropCounts (standRecordsAside (s.setStation .dormant))).formedEffective = e at he
  generalize hu : ({ s with
      station := .dormant
      recallUnit := countsDropped s
      motion := { s.motion with records := s.motion.records.map asideRecord, queue := [] }
      crescendo := { s.crescendo with effective := e } } : State) = u
  have hc : u.config = s.config := by rw [← hu]; rfl
  have hm : u.memory = s.memory := by rw [← hu]
  have hd : u.drawnSets = s.drawnSets := by rw [← hu]; rfl
  have hr : roomFor u [29] ↔ roomFor s [29] := by unfold roomFor; rw [hm]
  have hw : ∀ r, written u r = written s r := by intro r; rw [← hu]; rfl
  have hs : u.station ≠ .restarting := by rw [← hu]; simp
  rw [saveLastRegistration, writeRequest_eq, hc, hd]
  have hadm := admits_iff u [{ slot := Config.lastRegistrationSlot, content := setsContent s.drawnSets, source := .lastRegistration }]
  by_cases hl : s.config.policy = .last
  · rw [if_pos hl]
    by_cases hroom : roomFor s [29]
    · rw [if_pos ⟨hs, hadm.2 (hr.2 hroom)⟩, hw]
      refine ⟨?_, ?_, fun _ _ => rfl, fun h => ?_⟩
      · rw [← hu]; rfl
      · rw [← hu]; exact (he s.memory).symm
      · rcases h with h | h
        · exact absurd hl h
        · exact absurd hroom h
    · rw [if_neg fun h => hroom (hr.1 (hadm.1 h.2))]
      refine ⟨?_, ?_, fun _ h => absurd h hroom, fun _ => hm⟩
      · rw [← hu]; rfl
      · rw [← hu]; exact (he s.memory).symm
  · rw [if_neg hl]
    refine ⟨?_, ?_, fun h => absurd h hl, fun _ => hm⟩
    · rw [← hu]
    · rw [← hu]; exact (he s.memory).symm

/-- An entry into Restarting (R21, R61, R65, R116, R164, R170). -/
theorem enterRestarting_entered (cause : StartCause) (h : s.station ≠ .off) (h2 : s.station ≠ .restarting) :
    enterRestarting cause s = restartingEntered cause s := by
  rw [enterRestarting, if_neg (by simp [h, h2])]
  unfold restartingEntered
  dsimp only
  ext1
  all_goals simp [stopBlocks, dropCounts, standRecordsAside, standAside_asideRecord, reportDrained_start, reportNoCoil_start,
    discardWaiting_memory, beginWrite_memory, countsDropped, State.divisionCount]
  · rfl
  · rfl

/-- An entry into Awake of a station whose records all stand aside (R80, R117). -/
theorem enterAwake_entered (hq : s.motion.queue = []) (hr : ∀ r ∈ s.motion.records, r.state ≠ .queued) :
    AwakeEntered s (enterAwake s) := by
  have hw : (fun r : MotionRecord => r.wake ((s.setStation .awake).sensedNow r.d r.i)) = wokenRecord s := by
    funext r
    simp only [MotionRecord.wake, wokenRecord, State.sensedNow]
    cases r.coil <;> rfl
  have hm : (s.motion.update (wokenRecord s)) =
      { records := s.motion.records.map (wokenRecord s)
        queue := ((s.motion.records.map (wokenRecord s)).filter fun r => r.state == .queued).map MotionRecord.key
        energized := s.motion.energized } := by
    unfold Motion.update
    rw [hq, List.filter_nil, List.nil_append, List.filter_map, List.map_map]
    have hk : MotionRecord.key ∘ wokenRecord s = MotionRecord.key := rfl
    rw [hk]
    have hf : s.motion.records.filter (fun r => !r.isQueued && (wokenRecord s r).isQueued) =
        s.motion.records.filter ((fun r => r.state == .queued) ∘ wokenRecord s) := by
      refine List.filter_congr fun r h => ?_
      simp [MotionRecord.isQueued, hr r h]
    rw [hf]
  have hs : wakeRecords (s.setStation .awake) = { s with
      station := .awake
      motion := judged { s with station := .awake } (s.motion.update (wokenRecord s)) } := by
    rw [wakeRecords, hw, moveRecords_judged]
    rfl
  unfold AwakeEntered enterAwake wakeCrescendo
  dsimp only
  rw [hs, hm]
  exact formAdditions_formed _ _ (by simp [Station.inPlay])

end Sys2Proof.Machine
end

