-- ==== Sys2Proof/Laws/Lines.lean ====
section
/-!
SUPPORT. Where the completion of a line's change goes in each station state (R126, R128).
-/

namespace Sys2Proof.Machine

open Sys2Proof.Safety

/-- A line's change touches the scanner alone. -/
@[simp] theorem atLine_frame (s : State) (n : Nat) (v : Bool) :
    (atLine s n v).pending = s.pending ∧ (atLine s n v).station = s.station ∧ (atLine s n v).cfg = s.cfg
      ∧ (atLine s n v).start = s.start ∧ (atLine s n v).image = s.image ∧ (atLine s n v).refreshPointer = s.refreshPointer
      ∧ (atLine s n v).recallUnit = s.recallUnit ∧ (atLine s n v).answers = s.answers ∧ (atLine s n v).sequencer = s.sequencer
      ∧ (atLine s n v).memory = s.memory ∧ (atLine s n v).crescendo = s.crescendo ∧ (atLine s n v).motion = s.motion
      ∧ (atLine s n v).link = s.link ∧ (atLine s n v).peers = s.peers ∧ (atLine s n v).supply = s.supply
      ∧ (atLine s n v).faults = s.faults ∧ (atLine s n v).held = s.held ∧ (atLine s n v).config = s.config
      ∧ (atLine s n v).bases = s.bases ∧ (atLine s n v).setIsHeld = s.setIsHeld
      ∧ (atLine s n v).divisionCount = s.divisionCount ∧ (atLine s n v).drawnSets = s.drawnSets
      ∧ (atLine s n v).levelProtected = s.levelProtected ∧ (atLine s n v).hasEncoder = s.hasEncoder := by
  repeat' constructor

/-- A local event touches the scanner and the idle timer alone. -/
@[simp] theorem atEvent_frame (s : State) (n : Nat) (v : Bool) :
    (atEvent s n v).pending = s.pending ∧ (atEvent s n v).station = s.station ∧ (atEvent s n v).cfg = s.cfg
      ∧ (atEvent s n v).start = s.start ∧ (atEvent s n v).image = s.image ∧ (atEvent s n v).refreshPointer = s.refreshPointer
      ∧ (atEvent s n v).recallUnit = s.recallUnit ∧ (atEvent s n v).answers = s.answers
      ∧ (atEvent s n v).sequencer = s.sequencer ∧ (atEvent s n v).crescendo = s.crescendo ∧ (atEvent s n v).motion = s.motion
      ∧ (atEvent s n v).link = s.link ∧ (atEvent s n v).peers = s.peers ∧ (atEvent s n v).supply = s.supply
      ∧ (atEvent s n v).faults = s.faults ∧ (atEvent s n v).held = s.held ∧ (atEvent s n v).config = s.config
      ∧ (atEvent s n v).bases = s.bases ∧ (atEvent s n v).setIsHeld = s.setIsHeld
      ∧ (atEvent s n v).divisionCount = s.divisionCount ∧ (atEvent s n v).drawnSets = s.drawnSets
      ∧ (atEvent s n v).levelProtected = s.levelProtected ∧ (atEvent s n v).hasEncoder = s.hasEncoder := by
  repeat' constructor

variable {s : State} {n : Nat} {v : Bool} {carries : LineFunction → Bool}

/-- A line takes a qualified state as R121 leaves it. -/
theorem take_eq : LineState.take v = lineTaken v := by
  funext ⟨q, r⟩
  by_cases h : q = v <;> simp [LineState.take, lineTaken, h]

/-- The scanner alone follows a line's qualified state (R121). -/
theorem qualify_eq : qualify n v s = atLine s n v := by
  rw [qualify, take_eq]
  rfl

/-- In Awake and Joining a completed change reaches the block that owns the line's function (R126, R128). -/
theorem lineEvent_handed (h : carries (s.functionOfLine n) = true) (hs : s.station = .awake ∨ s.station = .joining) :
    lineEvent carries n v s =
      if v then handPress (s.functionOfLine n) (atLine s n v) else handRelease (s.functionOfLine n) (atLine s n v) := by
  unfold lineEvent handChange
  rw [if_pos h, qualify_eq, show (atLine s n v).station = s.station from rfl,
    if_pos (by rcases hs with h | h <;> simp [h, handsOn])]

/-- Where the state does not hand the change on, the line's qualified state alone changes (R128). -/
theorem lineEvent_only (h : carries (s.functionOfLine n) = true) (hs : handsOn s.station (s.functionOfLine n) v = false) :
    lineEvent carries n v s = atLine s n v := by
  unfold lineEvent handChange
  rw [if_pos h, qualify_eq, show (atLine s n v).station = s.station from rfl, if_neg (by simp [hs])]

/-- In Dormant the Console key reaches the Start Controller (R128, R129). -/
theorem lineEvent_key (h : carries (s.functionOfLine n) = true) (hf : s.functionOfLine n = .consoleKey)
    (hs : s.station.inPlay = true) : lineEvent carries n v s = judgeConsole (atLine s n v) := by
  unfold lineEvent handChange
  rw [if_pos h, qualify_eq, show (atLine s n v).station = s.station from rfl, hf,
    if_pos (by cases hst : s.station <;> simp_all [Station.inPlay, handsOn])]
  cases v <;> rfl

/-- A line of another function gives no such event. -/
theorem lineEvent_none (h : carries (s.functionOfLine n) = false) : lineEvent carries n v s = s := by
  rw [lineEvent, if_neg (by simp [h])]

/-- A line's qualified state after a change of line n (R121). -/
theorem atLine_qualified (k : Nat) (hk : k ≠ n) : (atLine s n v).qualified k = s.qualified k := by
  show (match (s.scanner.lines.modify n (lineTaken v))[k]? with | some l => l.qualified | none => false) = _
  simp only [List.getElem?_modify, if_neg hk.symm, id_map']
  rfl

/-- The state of a function that line n does not carry is untouched by line n (R40, R129). -/
theorem atLine_anyActive {f : LineFunction} (h : s.functionOfLine n ≠ f) : (atLine s n v).anyActive f = s.anyActive f := by
  have hk : ∀ k, (s.functionOfLine k == f && (atLine s n v).qualified k) = (s.functionOfLine k == f && s.qualified k) := by
    intro k
    by_cases hk : k = n
    · have hf : (s.functionOfLine k == f) = false := by simpa [hk] using h
      rw [hf, Bool.false_and, Bool.false_and]
    · rw [atLine_qualified k hk]
  show ((List.range s.config.table.length).any fun k => s.functionOfLine k == f && (atLine s n v).qualified k) = _
  simp only [hk]
  rfl

end Sys2Proof.Machine
end

