-- ==== Sys2Proof/Laws/Requests.lean ====
section
/-!
SUPPORT. What the level change, the edits of a sequence, the captured scope, the receipt of a frame, the refresh burst and the
merge of a registration do.
-/

namespace Sys2Proof.Machine

open Sys2Proof.Safety

variable (s : State)

/-- A sound configuration has at most 8 divisions (R1, R123). -/
theorem divisionCount_le (h : configured s) : s.divisionCount ≤ 8 := by
  unfold configured at h
  unfold State.divisionCount State.config
  split at h <;> rename_i hc
  · rw [hc]
    simp [noConfiguration]
  · rw [hc]
    have := h.2.1
    simp only [figuresOk, layoutOk, Bool.and_eq_true, decide_eq_true_eq] at this
    show _ ≤ 8
    simp only [Option.getD_some]
    omega

/-- The states of play. -/
theorem inPlay_iff : s.station.inPlay = true ↔ s.station = .joining ∨ s.station = .awake ∨ s.station = .dormant := by
  cases s.station <;> simp [Station.inPlay]

/-- A level change loads the new level's list (R23, R69). -/
theorem changeLevel_eq (level : Nat) : changeLevel level s =
    { afterReads (s.sequenceSlots level) s with
      recallUnit := { s.recallUnit with level := level, live := none, snapshot := none }
      sequencer := { steps := s.storedSteps level, cursor := 0 } } := by
  simp only [changeLevel, loadLevel, noteReads_afterReads]
  unfold afterReads
  simp only [State.setRecallUnit_memory, show ∀ v, (s.setRecallUnit v).sequenceSlots level = s.sequenceSlots level from fun _ => rfl]
  split <;> rfl

/-- An edit the queue can take (R76). -/
theorem edit_taken (steps : List SequenceStep) (cursor first last : Nat) (hs : s.station ≠ .restarting)
    (h : roomFor s ((s.editRequest steps first last).map (·.slot))) :
    edit steps cursor first last s =
      { s with
        memory := written s (s.editRequest steps first last)
        sequencer := { steps := steps, cursor := cursor } } := by
  rw [edit, writeRequest_taken s hs h]
  rfl

/-- An edit the queue cannot take (R76). -/
theorem edit_refused (steps : List SequenceStep) (cursor first last : Nat)
    (h : ¬ roomFor s ((s.editRequest steps first last).map (·.slot))) : edit steps cursor first last s = refuse s := by
  rw [edit, writeRequest_refused s h]

/-- The bits of a division set gathered from a list of divisions. -/
theorem getLsbD_gatheredScope (f : Nat → Bool) (d : Nat) :
    (BitVec.ofNat 8 (((List.range 8).filter f).map (2 ^ ·)).sum).getLsbD d = (decide (d < 8) && f d) := by
  by_cases hd : d < 8
  · have h : ∀ b0 b1 b2 b3 b4 b5 b6 b7 : Bool, ∀ k : Fin 8,
        (BitVec.ofNat 8 (((List.range 8).filter (fun n => [b0, b1, b2, b3, b4, b5, b6, b7].getD n false)).map (2 ^ ·)).sum).getLsbD k
          = [b0, b1, b2, b3, b4, b5, b6, b7].getD k false := by decide
    have := h (f 0) (f 1) (f 2) (f 3) (f 4) (f 5) (f 6) (f 7) ⟨d, hd⟩
    have e : (List.range 8).filter (fun n => [f 0, f 1, f 2, f 3, f 4, f 5, f 6, f 7].getD n false) = (List.range 8).filter f := by
      refine List.filter_congr fun n hn => ?_
      have : n < 8 := by simpa using hn
      interval_cases n <;> rfl
    rw [e] at this
    rw [this, decide_eq_true hd, Bool.true_and]
    interval_cases d <;> rfl
  · rw [BitVec.getLsbD_of_ge _ _ (Nat.le_of_not_lt hd), decide_eq_false hd, Bool.false_and]

/-- The scope a general is captured with (R33). -/
theorem getLsbD_captureScope (d : Nat) :
    s.captureScope.getLsbD d = (s.config.scope.getLsbD d && s.recallUnit.cancelCounts.getD d 0 == 0) := by
  rw [State.captureScope, getLsbD_gatheredScope]
  by_cases hd : d < 8
  · rw [decide_eq_true hd, Bool.true_and, State.excluded]
    congr 1
    rw [Bool.eq_iff_iff]
    simp
  · rw [decide_eq_false hd, BitVec.getLsbD_of_ge s.config.scope _ (Nat.le_of_not_lt hd)]
    rfl

/-- The states and line views in which a frame can come to its end at the station (R134, R145). -/
theorem receives_iff : s.receives = true ↔ listening s := by
  unfold listening State.receives
  cases s.station <;> simp [Station.onLink]

/-- A frame that came to its end (R134, R142). -/
theorem frameEnded_taken : frameEnded s = frameTaken s := rfl

/-- A frame that reaches the station whole is dispatched (R144, R145). -/
theorem receive_heard {origin : Nat} {f : Frame} (h : heard s origin f) : receive origin f s = dispatch origin f (frameTaken s) := by
  obtain ⟨h1, h2, h3⟩ := h
  simp only [receive, (receives_iff s).2 h1, if_true, h2]
  rw [if_neg (show ¬ origin = (frameEnded s).link.number from h3)]
  rfl

/-- A good frame of the station's own number is a clash (R143). -/
theorem receive_own {f : Frame} (h : listening s) (ha : acceptable s.link.number f = true) :
    receive s.link.number f s = clash (frameTaken s) := by
  simp only [receive, (receives_iff s).2 h, if_true, ha]
  rw [if_pos (show s.link.number = (frameEnded s).link.number from rfl)]
  rfl

/-- A frame that R134 discards is handed to no block (R134). -/
theorem receive_discarded {origin : Nat} {f : Frame} (h : listening s) (ha : acceptable origin f = false) :
    receive origin f s = frameTaken s := by
  simp [receive, (receives_iff s).2 h, ha, frameEnded_taken]

/-- A frame the receiver did not take up changes nothing (R134, R145). -/
theorem receive_unheard {origin : Nat} {f : Frame} (h : ¬ listening s) : receive origin f s = s := by
  rw [receive, if_neg fun hr => h ((receives_iff s).1 hr)]

/-- Routine frames handed one after another in a state that takes hand-overs (R138). -/
theorem handOverAll_routine (fs : List Frame) (hr : ∀ f ∈ fs, isUrgent f = false) (hs : s.station.takesHandOvers = true) :
    handOverAll fs s = { s with link := { s.link with routine := fs.foldl waitingWith s.link.routine } } := by
  induction fs generalizing s with
  | nil => rfl
  | cons f fs ih =>
    have h1 : handOver f s = { s with link := { s.link with routine := waitingWith s.link.routine f } } := by
      rw [handOver_routine _ _ (hr f (by simp))]
      simp [handedRoutine, hs]
    show handOverAll fs (handOver f s) = _
    rw [ih (handOver f s) (fun g hg => hr g (by simp [hg])) (by rw [h1]; exact hs), h1]
    rfl

/-- The answer to a peer that has become Present: every division's refresh and a crescendo repeat are handed (R15, R96). -/
theorem reportArrival_answered (hs : s.station.takesHandOvers = true) :
    reportArrival s = { s with link := { s.link with routine := arrivalAnswered s } } := by
  unfold reportArrival handRepeat refreshBurst arrivalAnswered
  rw [handOverAll_routine s _ (by intro f hf; obtain ⟨d, _, rfl⟩ := List.mem_map.1 hf; rfl) hs, handOver_routine _ _ rfl,
    List.foldl_map]
  simp only [handedRoutine, hs, if_true]
  rfl

/-- A received registration whose stamp is newer is adopted, and the targets follow (R10, R11, R16). -/
theorem mergeRegistration_merged {d : Nat} {a : Stamp} {x : StopSet} {v : Division} (hs : s.station.inPlay = true)
    (hv : s.image[d]? = some v) (hn : newer a v.stamp = true) :
    mergeRegistration d a x s =
      { s with
        image := s.image.set d { drawn := s.config.restrict d x, stamp := a }
        motion := motionAfter s fun r => if r.d = d then retargeted ((s.config.restrict d x).getLsbD r.i) r else r } := by
  have hlt : d < s.image.length := (List.getElem?_eq_some_iff.1 hv).1
  have hd : s.division d = v := by simp [State.division, List.getD_eq_getElem?_getD, hv]
  rw [mergeRegistration, if_pos ⟨hs, hlt, by rw [hd]; exact hn⟩, imageChanged, moveRecords_after]
  have hf : (fun r : MotionRecord => if [d].contains r.d then
        r.setTarget (((s.setImage (s.image.set d { drawn := s.config.restrict d x, stamp := a })).drawn r.d).getLsbD r.i) else r) =
      fun r => if r.d = d then retargeted ((s.config.restrict d x).getLsbD r.i) r else r := by
    funext r
    by_cases hk : r.d = d
    · simp [hk, setTarget_retargeted, State.drawn, hlt]
    · simp [hk]
  rw [hf]
  rfl

/-- A received registration that is not newer is ignored (R10). -/
theorem mergeRegistration_ignored {d : Nat} {a : Stamp} {x : StopSet}
    (h : s.station.inPlay = false ∨ s.image.length ≤ d ∨ newer a (s.division d).stamp = false) : mergeRegistration d a x s = s := by
  rw [mergeRegistration, if_neg]
  rintro ⟨h1, h2, h3⟩
  rcases h with h | h | h
  · simp [h] at h1
  · omega
  · simp [h] at h3

end Sys2Proof.Machine
end

