-- ==== Sys2Proof/WellFormed.lean ====
section
/-!
DEFINITION. Which commands the outside world can send: operands in the ranges their rules give them.
-/

namespace Sys2Proof

open Machine in
/-- A command whose operands lie in their ranges: lines 0 to 383, groups 0 to 47 (R119), controls of at most 8 divisions of 48
(R1), peer records 0 to 13 (R147), frames that pass R134, a discarded frame that fails it, a torn slot that fails its check
(R46), slots of a frame counted while one waits. -/
def Instr.wellFormed : Instr → Bool
  | .stopSenseChange n _ | .generalPiston n | .divisionalPiston n | .setPress n | .setRelease n | .generalCancel n
  | .divisionCancelPress n | .divisionCancelRelease n | .levelUp n | .levelDown n | .protect n | .sequencerNext n
  | .sequencerPrevious n | .tutti n | .crescendoProgram n | .crescendoSet n | .lineRelease n | .consoleKey n _
  | .faultAcknowledge n => n < Config.lineCount
  | .pulseEnd d i | .settleEnd d i => d < 8 && i < 48
  | .peerSilent n | .peerAbsent n => n < Config.peerRecords
  | .groupSample m _ => m < 48
  | .lossOfPower (.failing _ e) => e != 0#16
  | .low1Entry mv => mv < Config.low1Entry
  | .low1Release mv => Config.low1Release < mv
  | .low2Entry mv => mv < Config.low2Entry
  | .low2Release mv => Config.low2Release < mv
  | .registrationChange o d t x => acceptable o (.registrationChange d t x)
  | .registrationRefresh o d t x => acceptable o (.registrationRefresh d t x)
  | .crescendo o c => acceptable o (.crescendo c)
  | .crescendoRepeatReceived o c => acceptable o (.crescendoRepeat c)
  | .heartbeat o h => acceptable o (.heartbeat h)
  | .faultNoticeReceived o k => acceptable o (.faultNotice k)
  | .serviceReplyReceived o q n r c => acceptable o (.serviceReply q n r c)
  | .configurationRead o t n => acceptable o (.configurationRead t n)
  | .configurationWrite o t n c => acceptable o (.configurationWrite t n c)
  | .slotWrite o t n c => acceptable o (.slotWrite t n c)
  | .memoryClear o t => acceptable o (.memoryClear t)
  | .restart o t => acceptable o (.restart t)
  | .frameDiscarded framing bytes => (judgeFrame framing bytes).isNone
  | .lossOfPower .old | .lossOfPower .new | .powerOn _ | .configurationCheck _ | .restartLinePress | .startAfterRestarting
  | .encoderHandover _ _ | .indexEdge | .writeReadback _ | .idleReady | .retentionRefreshWrite | .heartbeatPeriod | .joinEnd
  | .numberClash | .lineIdle | .lineBusy | .sendBegin _ | .sendComplete | .sendAbort | .lampAnswerEnd _
  | .fixedLineSample _ _ => true

end Sys2Proof
end

