-- ==== Sys2Proof/Tests/Slice0.lean ====
section
/-!
SUPPORT. Tests: ill-formed commands that WellFormed refuses, figures the manual's own tables and worked cases give, and for each
statement with hypotheses a state and operands that meet them, clause by clause.
-/

namespace Sys2Proof.Tests

open Sys2Proof.Machine Sys2Proof.Safety

/-! ### A small station -/

def entry (f : LineFunction) : LineEntry := { function := f, inverted := false, mode := .three }

/-- One division of two controls, one divisional, two generals, two levels of 16 steps, eight stages, K = 1; every line function
once. -/
def smallConfiguration : Configuration where
  number := 2
  rate := .k125
  layout := { divisions := 1, controls := [2], divisionals := [1], generals := 2, levels := 2, steps := 16, stages := 8 }
  budget := 1
  pulse := 30
  settle := 20
  closed := 40
  opened := 1240
  bow := 60
  hysteresis := 8
  routes := { lamp := 0x0001#16, notice := 0x0010#16, line := 0x0020#16 }
  policy := .last
  periods := List.replicate 48 20
  table := [.stopSense 0 0, .stopSense 0 1, .set, .generalPiston 1, .generalPiston 2, .divisionalPiston 0 1, .generalCancel,
    .divisionCancel 0, .levelUp, .levelDown, .sequencerNext, .sequencerPrevious, .tutti, .crescendoProgram, .crescendoSet,
    .protect, .protectOverride, .consoleKey, .faultAcknowledge, .encoderA, .encoderB, .encoderIndex].map entry
  scope := 1#8
  returnGeneral := 1
  sensed := [3#48, 0#48, 0#48, 0#48, 0#48, 0#48, 0#48, 0#48]

def lineStates (on : List Nat) : List LineState := (List.range 22).map fun n => { qualified := on.contains n, run := 0 }

def knob (i : Nat) (target sensed : Bool) (state : MotionState) : MotionRecord :=
  { d := 0, i := i, target := target, sensed := sensed, state := state, retry := 0, window := none, coil := none }

def console : Peer where
  station := 3
  kind := .combination
  state := .awake
  presence := .present
  age := 100
  sequence := 15
  gapRun := 0
  cleanRun := 0
  alert := false
  cause := .powerOn
  contribution := { stage := 2, tutti := false, additions := [2#48] }

/-- An Awake station: control 0 drawn, general 1 of level 1 waiting to be written with both controls in its set, one console
peer, and on the line a frame whose beginning it took up. -/
def awake : State :=
  { State.reset with
    station := .awake
    cfg := some smallConfiguration
    scanner := { lines := lineStates [0, 17], restart := { qualified := some false, level := false, run := 0 },
                 strap := { qualified := some false, level := false, run := 0 } }
    image := [{ drawn := 1#48, stamp := { era := 5#16, origin := 1 } }]
    recallUnit := { level := 1, live := none, snapshot := none, setCount := 0, cancelCounts := [0], protection := 0#128 }
    sequencer := { steps := [.general 1, .generalCancel, .divisional 0 1], cursor := 1 }
    memory := { State.reset.memory with
      partition := some (partitionOf smallConfiguration.layout)
      queue := [{ slot := 32, content := Record.content { scope := 1#8, sets := [3#48] }, source := .capture }] }
    motion := { records := [knob 0 true true .aligned, knob 1 false false .aligned], queue := [], energized := 0 }
    link := { State.reset.link with number := 2, receiving := true }
    peers := some console :: List.replicate 13 none }

/-- The same station in another state of play, its records Unaligned. -/
def resting (station : Station) : State :=
  { awake with
    station := station
    motion := { records := [knob 0 true true .unaligned, knob 1 false false .unaligned], queue := [], energized := 0 } }

/-- Awake with Set held. -/
def setHeld : State := { awake with recallUnit := { awake.recallUnit with setCount := 1 } }

/-- A station whose supply lies below both thresholds. -/
def low : Supply := { low1 := true, low2 := true }

/-! ### WellFormed refuses what the outside world cannot send -/

theorem smoke_line : Instr.wellFormed (.generalPiston 384) = false ∧ Instr.wellFormed (.generalPiston 383) = true := by decide
theorem smoke_group : Instr.wellFormed (.groupSample 48 0#8) = false ∧ Instr.wellFormed (.groupSample 47 0#8) = true := by decide
theorem smoke_control : Instr.wellFormed (.pulseEnd 8 0) = false ∧ Instr.wellFormed (.settleEnd 0 48) = false
    ∧ Instr.wellFormed (.settleEnd 7 47) = true := by decide
theorem smoke_record : Instr.wellFormed (.peerSilent 14) = false ∧ Instr.wellFormed (.peerAbsent 13) = true := by decide
theorem smoke_torn : Instr.wellFormed (.lossOfPower (.failing 0#496 0#16)) = false := by decide
theorem smoke_supply : Instr.wellFormed (.low1Entry 10500) = false ∧ Instr.wellFormed (.low1Release 11000) = false
    ∧ Instr.wellFormed (.low2Entry 9000) = false ∧ Instr.wellFormed (.low2Release 9500) = false := by decide
theorem smoke_registration : Instr.wellFormed (.registrationChange 0 0 ⟨1#16, 1⟩ 0#48) = false
    ∧ Instr.wellFormed (.registrationChange 3 8 ⟨1#16, 1⟩ 0#48) = false
    ∧ Instr.wellFormed (.registrationRefresh 3 0 ⟨1#16, 16⟩ 0#48) = false := by decide
theorem smoke_crescendo : Instr.wellFormed (.crescendo 3 ⟨4, 0, false, [0#48]⟩) = false
    ∧ Instr.wellFormed (.crescendoRepeatReceived 3 ⟨0, 61, false, [0#48]⟩) = false
    ∧ Instr.wellFormed (.crescendo 3 ⟨0, 0, false, []⟩) = false := by decide
theorem smoke_heartbeat : Instr.wellFormed (.heartbeat 3 ⟨1, .awake, false, .powerOn, 16, 0#16, none⟩) = false := by decide
theorem smoke_notice : Instr.wellFormed (.faultNoticeReceived 16 .encoder) = false := by decide
theorem smoke_reply : Instr.wellFormed (.serviceReplyReceived 3 7 0 .done none) = false
    ∧ Instr.wellFormed (.serviceReplyReceived 3 8 0 .content none) = false := by decide
theorem smoke_service : Instr.wellFormed (.configurationRead 3 0 0) = false ∧ Instr.wellFormed (.configurationWrite 3 16 0 0#496) = false
    ∧ Instr.wellFormed (.slotWrite 3 2 65536 0#496) = false ∧ Instr.wellFormed (.memoryClear 3 0) = false
    ∧ Instr.wellFormed (.restart 0 2) = false := by decide
theorem smoke_discarded :
    Instr.wellFormed (.frameDiscarded none (frameBytes 3 (.faultNotice .encoder))) = false := by decide +kernel

/-! ### Figures of the manual -/

/-- The layout of the gallery console (00_scope.md section 7): G = 40, Dd together 62, L = 128, Q = 96, S = 40. -/
def gallery : Layout where
  divisions := 6
  controls := [30, 40, 44, 36, 30, 24]
  divisionals := [10, 12, 12, 10, 10, 8]
  generals := 40
  levels := 128
  steps := 96
  stages := 40

/-- The partition of the example installation (Table of 3.3). -/
theorem figure_partition :
    gallery.size = 102 ∧ partitionOf gallery = { levelBase := 32, levelTop := 13088, seqBase := 15455, cresBase := 16223 }
      ∧ gallery.fits = true := by decide

/-- The slots of the example installation's records (3.4, R24, R26, R68). -/
theorem figure_slots :
    pistonSlot (partitionOf gallery) gallery 3 (.general 6) = 241 ∧ pistonSlot (partitionOf gallery) gallery 3 (.general 12) = 247
      ∧ pistonSlot (partitionOf gallery) gallery 3 (.divisional 2 4) = 301
      ∧ pistonSlot (partitionOf gallery) gallery 128 (.divisional 5 8) = 13087
      ∧ sequenceSlot (partitionOf gallery) gallery 3 2 = 15469 ∧ stageSlot (partitionOf gallery) gallery 2 17 = 16319 := by decide

/-- A clear of the example installation settles 13987 slots (3.9). -/
theorem figure_clear : clearTotalOf gallery = 13987 := by decide

/-- The check of the nine bytes "123456789" (R172). -/
theorem figure_check : crc [0x31#8, 0x32#8, 0x33#8, 0x34#8, 0x35#8, 0x36#8, 0x37#8, 0x38#8, 0x39#8] = 0x29B1#16 := by decide +kernel

/-- The shoe of Table 5-2 with O = 40, E = 1240, B = 60 and S = 40, H = 8: positions and stages (R85, R86). -/
def shoe : Configuration := { smallConfiguration with layout := { smallConfiguration.layout with stages := 40 } }

theorem figure_positions : [40, 340, 640, 940, 1240].map (calibrated shoe) = [0, 295, 560, 795, 1000] := by decide
theorem figure_stages : ([0, 295, 560, 795, 1000].map fun y => selectStage shoe y 0) = [0, 12, 22, 32, 40] := by decide

/-- (3, 2) is newer than (65530, 5) (R3). -/
theorem figure_stamps : newer ⟨3#16, 2⟩ ⟨65530#16, 5⟩ = true ∧ newer ⟨65530#16, 5⟩ ⟨3#16, 2⟩ = false
    ∧ newer ⟨1#16, 5⟩ ⟨65535#16, 2⟩ = true := by decide

/-- Era 65535 is followed by era 1, and an unset division takes era 1 (R5). -/
theorem figure_eras : nextEra 65535#16 = 1#16 ∧ nextEra 0#16 = 1#16 := by decide

/-- The shoe of the worked case of 5.3, S = 30: up to 640, back to 624, back to 610. -/
theorem figure_shoe :
    let c : Configuration := { shoe with layout := { shoe.layout with stages := 30 } }
    selectStage c (calibrated c 640) 0 = 17 ∧ selectStage c (calibrated c 624) 17 = 17 ∧ selectStage c (calibrated c 610) 17 = 16 := by
  decide

/-- The toe stud of 7.3, mode Three: one bounce, then three closed samples. -/
theorem figure_toe_stud :
    let sample := fun (x : LineState × Bool) (level : Bool) => qualifySample 3 level x.1
    ([false, true, false, true, true].foldl sample (⟨false, 0⟩, false)) = (⟨false, 2⟩, false)
      ∧ ([false, true, false, true, true, true].foldl sample (⟨false, 0⟩, false)) = (⟨true, 0⟩, true) := by decide

/-- The eras at the edge of the circle (1.9). -/
theorem figure_circle : newer ⟨1#16, 2⟩ ⟨65535#16, 5⟩ = true ∧ newer ⟨32770#16, 5⟩ ⟨2#16, 5⟩ = true
    ∧ newer ⟨32770#16, 9⟩ ⟨2#16, 5⟩ = true ∧ newer ⟨32770#16, 1⟩ ⟨2#16, 5⟩ = false ∧ newer ⟨2#16, 5⟩ ⟨32770#16, 1⟩ = true := by decide

/-- The lossy link of 9.4: 6, 7, 9, 11, 13 after 4 set the alert flag; three in sequence leave it. -/
theorem figure_lossy_link :
    let heard := fun (p : Peer) (n : Nat) =>
      let h : HeartbeatContent := ⟨1, .awake, false, .powerOn, n, 0#16, none⟩
      (p.judge h).record h
    let judged := fun ns : List Nat =>
      let q := ns.foldl heard { console with sequence := 4 }
      (q.gapRun, q.cleanRun, q.alert)
    judged [6, 7] = (0, 0, false) ∧ judged [6, 7, 9, 11] = (2, 0, false) ∧ judged [6, 7, 9, 11, 13] = (3, 0, true)
      ∧ judged [6, 7, 9, 11, 13, 14, 15, 0] = (0, 3, true)
      ∧ judged [6, 7, 9, 11, 13, 14, 15, 0, 2, 3, 4, 5, 6, 7, 8, 9, 10] = (0, 0, false) := by decide

/-- A refresh of Great (1) with controls 0, 1 and 2 drawn under stamp (18, 5), sent by station 2 (R171 to R173). -/
theorem figure_frame :
    (frameBytes 2 (.registrationRefresh 1 ⟨18#16, 5⟩ 7#48)).take 13
      = [0x02#8, 0x04#8, 0x0A#8, 0x01#8, 0x12#8, 0x00#8, 0x05#8, 0x07#8, 0x00#8, 0x00#8, 0x00#8, 0x00#8, 0x00#8] := by decide +kernel

/-- A level of length 35 at cursor 20 (4.7): an insert names sequence slots 1 and 2, and position 21 takes the new step. -/
theorem figure_insert :
    let list := (List.replicate 35 SequenceStep.generalCancel).insertIdx 20 (.general 12)
    list.length = 36 ∧ list[20]? = some (.general 12) ∧ (20 / 16, 35 / 16) = (1, 2) := by decide

/-! ### The small station is sound -/

theorem configured_of {s : State} {c : Configuration} (h : s.cfg = some c)
    (hs : s.station.inPlay = true ∨ s.station = .restarting) (hf : figuresOk c = true)
    (hp : s.memory.partition = some (partitionOf c.layout)) : configured s := by
  unfold configured; rw [h]; exact ⟨hs, hf, hp⟩

theorem small_figuresOk : figuresOk smallConfiguration = true := by decide

theorem imageOk_of {s : State} {v : Division} (h : s.image = [v]) (hl : s.divisionCount = 1)
    (hd : s.config.restrict 0 v.drawn = v.drawn) : imageOk s := by
  refine ⟨by rw [h, hl]; rfl, fun d w hw => ?_⟩
  rw [h] at hw
  match d, hw with
  | 0, hw => cases hw; exact hd

theorem motionOk_of {s : State} (hk : s.motion.records.map MotionRecord.key = s.config.sensedControls)
    (hr : ∀ r ∈ s.motion.records, recordOk r ∧ (r.state = .unaligned ↔ s.station ≠ .awake)) (hn : s.motion.queue.Nodup)
    (hq : ∀ k ∈ s.motion.queue, ∃ r ∈ s.motion.records, r.key = k ∧ r.state = .queued)
    (hs : ∀ r ∈ s.motion.records, r.state = .queued → r.key ∈ s.motion.queue)
    (he : s.motion.energized = s.motion.records.countP (·.coil.isSome)) (hb : s.motion.energized ≤ s.config.budget) : motionOk s :=
  ⟨hk, hr, hn, fun k => ⟨hq k, fun ⟨r, hm, hkey, hst⟩ => hkey ▸ hs r hm hst⟩, he, hb⟩

/-- An Awake small station whose motion holds these two records. -/
def moving (a b : MotionRecord) (queue : List (Nat × Nat)) (energized : Nat) : State :=
  { awake with motion := { records := [a, b], queue := queue, energized := energized } }

theorem awake_configured : configured awake := configured_of rfl (by decide) small_figuresOk rfl
theorem awake_imageOk : imageOk awake := imageOk_of rfl rfl (by decide)
theorem awake_motionOk : motionOk awake := by
  refine motionOk_of (by decide) ?_ (by decide) (by decide) (by decide) (by decide) (by decide)
  intro r hr
  simp only [awake, List.mem_cons, List.not_mem_nil, or_false] at hr
  rcases hr with rfl | rfl <;> simp [recordOk, knob, awake, Config.maxRetry]
theorem awake_levelsOk : levelsOk awake := by unfold levelsOk; decide
theorem awake_crescendoOk : crescendoOk awake := by unfold crescendoOk; decide
theorem awake_writesOk : writesOk awake := by
  refine ⟨by decide, by decide, fun f h => ?_⟩
  cases h
theorem awake_regionsOk : regionsOk awake := by
  refine ⟨?_, by decide, (fun _ h => nomatch h), by decide, (fun _ h => nomatch h), by decide⟩
  intro e he
  simp only [awake, List.mem_cons, List.not_mem_nil, or_false] at he
  subst he
  refine ⟨?_, by decide⟩
  show _ ∧ _
  decide
theorem awake_peersOk : peersOk awake := by unfold peersOk peerOk; decide
theorem awake_linkOk : linkOk awake := by
  refine ⟨(fun _ h => nomatch h), (fun _ h => nomatch h), by decide, by decide, (fun _ h => nomatch h), by decide, by decide, by decide⟩
theorem awake_supplyOk : supplyOk awake := by unfold supplyOk; decide

/-! ### Witnesses: the step and the invariants -/

theorem witness_StepTakesTheFrontCommand :
    ({ awake with pending := [.lineIdle, .lineBusy] } : State).pending = .lineIdle :: [.lineBusy] := rfl

theorem witness_EmptyQueueLetsOneMillisecondPass : State.reset.pending = [] ∧ awake.pending = [] := by decide

theorem witness_CommandsLeaveTheQueueAlone : ∃ t, exec (.generalCancel 6) awake = .next t := ⟨_, rfl⟩

/-- A write in flight of a slot of 496 zero bits but the lowest. -/
def writing (slot : Nat) (kind : FlightKind) (rewrite : Bool) : Flight :=
  { slot := slot, content := 1#496, kind := kind, rewrite := rewrite, ms := 3 }

/-- The small station with a write in flight and nothing waiting. -/
def inFlight (station : Station) (f : Flight) : State :=
  { resting station with memory := { awake.memory with queue := [], flight := some f } }

/-- The small station at rest with nothing to write, idle-ready, its retention pointer at a slot. -/
def refreshing (n : Nat) : State :=
  { resting .dormant with memory := { awake.memory with queue := [], retention := n, idle := 2000 } }

theorem witness_CommandsStopOnlyOutsideTheArray :
    regionsOk awake
      ∧ (inFlight .awake (writing 16384 .refresh false)).memory.flight = some (writing 16384 .refresh false)
      ∧ ((refreshing 16384).refreshMayBegin = true ∧ (refreshing 16384).memory.retention = 16384) :=
  ⟨awake_regionsOk, rfl, by decide⟩

/-- The Awake small station with a command waiting. -/
def queued (c : Instr) : State := { awake with pending := [c] }

theorem witness_StepKeepsTheArrayCanonical :
    Memory.wf (queued (.generalCancel 6)).memory.cells = true ∧ ∃ t, step (queued (.generalCancel 6)) = .next t :=
  ⟨by decide, _, rfl⟩
theorem witness_StepKeepsConfigurationAndImage :
    configured (queued (.generalCancel 6)) ∧ imageOk (queued (.generalCancel 6)) ∧ ∃ t, step (queued (.generalCancel 6)) = .next t :=
  ⟨awake_configured, awake_imageOk, _, rfl⟩
theorem witness_StepKeepsTheWriteQueue :
    writesOk (queued (.consoleKey 17 false)) ∧ ∃ t, step (queued (.consoleKey 17 false)) = .next t :=
  ⟨awake_writesOk, _, rfl⟩
theorem witness_StepKeepsWritesInTheirRegions :
    configured (queued (.consoleKey 17 false)) ∧ levelsOk (queued (.consoleKey 17 false)) ∧ crescendoOk (queued (.consoleKey 17 false))
      ∧ writesOk (queued (.consoleKey 17 false)) ∧ regionsOk (queued (.consoleKey 17 false))
      ∧ ∃ t, step (queued (.consoleKey 17 false)) = .next t :=
  ⟨awake_configured, awake_levelsOk, awake_crescendoOk, awake_writesOk, awake_regionsOk, _, rfl⟩
theorem witness_StepKeepsTheRanges :
    configured (queued (.levelUp 8)) ∧ levelsOk (queued (.levelUp 8)) ∧ crescendoOk (queued (.levelUp 8))
      ∧ supplyOk (queued (.levelUp 8)) ∧ ∃ t, step (queued (.levelUp 8)) = .next t :=
  ⟨awake_configured, awake_levelsOk, awake_crescendoOk, awake_supplyOk, _, rfl⟩
theorem witness_StepKeepsTheMotionLaw :
    configured (queued (.generalPiston 3)) ∧ imageOk (queued (.generalPiston 3)) ∧ motionOk (queued (.generalPiston 3))
      ∧ ∃ t, step (queued (.generalPiston 3)) = .next t :=
  ⟨awake_configured, awake_imageOk, awake_motionOk, _, rfl⟩
theorem witness_StepKeepsTheTransmitQueues :
    configured (queued (.generalPiston 3)) ∧ linkOk (queued (.generalPiston 3)) ∧ ∃ t, step (queued (.generalPiston 3)) = .next t :=
  ⟨awake_configured, awake_linkOk, _, rfl⟩
theorem witness_StepKeepsThePeerTable :
    configured (queued (.peerSilent 0)) ∧ peersOk (queued (.peerSilent 0)) ∧ ∃ t, step (queued (.peerSilent 0)) = .next t :=
  ⟨awake_configured, awake_peersOk, _, rfl⟩
/-- A table whose group 0 carries a Division cancel and a General cancel, both one sample short of a press, its division at the last
era before the circle closes. -/
def cancelling : State :=
  { awake with
    cfg := some { smallConfiguration with table := [.divisionCancel 0, .generalCancel, .stopSense 0 0, .stopSense 0 1].map entry }
    scanner := { awake.scanner with lines := [⟨false, 2⟩, ⟨false, 2⟩, ⟨true, 0⟩, ⟨true, 0⟩] }
    image := [{ drawn := 1#48, stamp := { era := 65535#16, origin := 1 } }] }

theorem cancelling_configured : configured cancelling := configured_of rfl (by decide) (by decide) rfl

theorem witness_StampsOnlyAdvance :
    (configured awake ∧ imageOk awake
      ∧ ∃ t v, exec (.divisionCancelPress 7) awake = .next t ∧ awake.image[0]? = some v
        ∧ t.image[0]? = some { drawn := 0#48, stamp := { era := 6#16, origin := 2 } })
      ∧ (configured cancelling ∧ imageOk cancelling
        ∧ ∃ t, exec (.groupSample 0 0xFF#8) cancelling = .next t
          ∧ t.image[0]? = some { drawn := 0#48, stamp := { era := 2#16, origin := 2 } }) :=
  ⟨⟨awake_configured, awake_imageOk, _, _, rfl, rfl, by decide⟩, cancelling_configured, imageOk_of rfl rfl (by decide), _, rfl, by decide⟩

/-- A pulse runs on control 0. -/
def driving : State := moving { knob 0 true false .driving with window := some 30, coil := some true } (knob 1 false false .aligned) [] 1

theorem witness_NothingBeginsUnderLow2 :
    let s := { driving with supply := low, memory := { awake.memory with queue := [], flight := some (writing 32 .refresh false) } }
    ∃ t, exec (.divisionCancelPress 7) s = .next t ∧ s.supply.low2 = true ∧ t.supply.low2 = true
      ∧ (∃ r ∈ t.motion.records, r.coil.isSome = true) ∧ t.memory.flight = some (writing 32 .refresh false) :=
  ⟨_, rfl, rfl, rfl, by decide, rfl⟩

/-! ### Witnesses: stamps and local changes -/

/-- The small station with an era held by its division. -/
def atEra (e : Era) : State := { awake with image := [{ drawn := 1#48, stamp := { era := e, origin := 1 } }] }

theorem witness_StampOrder : (⟨2#16, 1⟩ : Stamp) ≠ ⟨1#16, 1⟩ ∧ ¬((2#16 : Era) = 0#16 ∧ (1#16 : Era) = 0#16) := by decide
theorem witness_LocalChangesTakeSuccessiveEras :
    (atEra 0#16).image[0]? = some ⟨1#48, ⟨0#16, 1⟩⟩ ∧ (atEra 65534#16).image[0]? = some ⟨1#48, ⟨65534#16, 1⟩⟩
      ∧ (atEra 65535#16).image[0]? = some ⟨1#48, ⟨65535#16, 1⟩⟩ := by decide
theorem witness_ReceivedFramesConverge :
    (∀ f ∈ [Frame.registrationChange 0 ⟨7#16, 3⟩ 2#48, .registrationRefresh 0 ⟨7#16, 3⟩ 2#48], heard awake 3 f)
      ∧ (∀ g ∈ [Frame.registrationChange 0 ⟨6#16, 4⟩ 3#48, .registrationRefresh 0 ⟨6#16, 4⟩ 3#48], heard awake 4 g)
      ∧ awake.link.outgoing = none ∧ awake.station = .awake ∧ awake.image[0]? = some ⟨1#48, ⟨5#16, 1⟩⟩
      ∧ newer ⟨7#16, 3⟩ ⟨5#16, 1⟩ = true ∧ newer ⟨6#16, 4⟩ ⟨5#16, 1⟩ = true ∧ newer ⟨7#16, 3⟩ ⟨6#16, 4⟩ = true := by
  unfold heard listening; decide

/-! ### Witnesses: power, start, restart -/

/-- Without power. -/
def unpowered : State := { State.reset with station := .off }

/-- Restarting with both drain reports held. -/
def drained : State := { resting .restarting with start := { awake.start with drained := true, noCoil := true } }

theorem witness_StartsTakeTheStartValues :
    unpowered.station = .off ∧ awake.station ≠ .off
      ∧ (drained.station = .restarting ∧ drained.start.drained = true ∧ drained.start.noCoil = true)
      ∧ ¬(awake.station = .restarting ∧ awake.start.drained = true ∧ awake.start.noCoil = true) := by decide

theorem witness_LossOfPowerKeepsTheArrayAlone :
    let s := inFlight .dormant (writing 16383 .refresh false)
    s.station ≠ .off ∧ Memory.wf s.memory.cells = true ∧ s.memory.flight = some (writing 16383 .refresh false)
      ∧ unpowered.station = .off := ⟨by decide, rfl, rfl, rfl⟩

/-- Bytes of a content, by place. -/
def bytesAt (l : List (Nat × Nat)) : Content := l.foldl (fun c b => c ||| placed b.1 (BitVec.ofNat 8 b.2)) 0#496

/-- The configuration block of a station 2 with the small layout and no console line. -/
def block (n : Nat) : Content :=
  match n with
  | 0 => bytesAt [(0, 2), (1, 1)]
  | 1 => bytesAt [(0, 1), (1, 2), (2, 1), (17, 2), (18, 2), (19, 16), (20, 8)]
  | 2 => bytesAt [(0, 1), (1, 30), (2, 20), (3, 40), (4, 216), (5, 4), (6, 60), (7, 8)]
  | 3 => bytesAt ([(0, 1), (2, 16), (4, 32), (6, 1)] ++ (List.range 48).map fun m => (7 + m, 20))
  | 30 => bytesAt [(0, 1), (1, 1)]
  | _ => 0#496

theorem witness_AcceptedConfigurationsAreInRange :
    (checkConfiguration fun n => some (block n)).isSome = true
      ∧ checkConfiguration (fun n => if n = 27 then none else some (block n)) = none
      ∧ checkConfiguration (fun n => some (if n = 2 then block 2 ||| bytesAt [(1, 1)] else block n)) = none := by
  decide +kernel

/-- Start with the strap's state given and the configuration block as newest content. -/
def starting (strap : Option Bool) (slots : List Nat) : State :=
  { State.reset with
    scanner := { State.reset.scanner with strap := { qualified := strap, level := false, run := 0 } }
    memory := { State.reset.memory with queue := slots.map fun n => { slot := n, content := block n, source := .service 10 } } }

/-- A slot of the array that nothing has written fails its check (log entry 2). -/
theorem unlisted_image (m : Nat) : readSlotImage [] m = 0#512 := by
  unfold readSlotImage
  generalize List.range Config.slotBytes = l
  induction l with
  | nil => rfl
  | cons b l ih => rw [List.foldr_cons, ih]; simp [Memory.read, Config.unlistedByte]

theorem unlisted_slot_fails (n : Nat) : arrayContent [] n = none := by
  have h : (Content.bytes (SlotImage.content 0#512)) = List.replicate 31 0#8 ++ List.replicate 31 0#8 := by
    rw [Content.bytes, List.replicate_append_replicate, List.eq_replicate_iff]
    refine ⟨by simp, fun b hb => ?_⟩
    obtain ⟨i, -, rfl⟩ := List.mem_map.mp hb
    simp [Content.byte, SlotImage.content]
  have hc : crc (List.replicate 31 0#8 ++ List.replicate 31 0#8) = 51675#16 := by
    rw [crc, List.foldl_append, show (List.replicate 31 0#8).foldl crcByte 0xFFFF#16 = 49192#16 by decide +kernel]
    decide +kernel
  unfold arrayContent
  rw [unlisted_image, if_neg]
  rw [SlotImage.passes, h, hc, show SlotImage.check 0#512 = 0#16 by simp [SlotImage.check]]
  decide

theorem witness_StartEndsUnplayed :
    ((starting (some true) [0]).station = .start ∧ (starting (some true) [0]).scanner.strap.qualified = some true)
      ∧ (starting (some false) [0]).station = .start ∧ (starting (some false) [0]).scanner.strap.qualified = some false
      ∧ checkConfiguration (newest (starting (some false) [0]).memory) = none := by
  refine ⟨by decide, rfl, rfl, ?_⟩
  have h : newest (starting (some false) [0]).memory 1 = none := unlisted_slot_fails 1
  rw [checkConfiguration, if_neg]
  simp [requiredSlots, List.range_succ, h]

theorem witness_AcceptedConfigurationSendsToJoining :
    ((starting (some false) (List.range 32)).station = .start
        ∧ (starting (some false) (List.range 32)).scanner.strap.qualified = some false
        ∧ (checkConfiguration (newest (starting (some false) (List.range 32)).memory)).isSome = true)
      ∧ ((starting none []).station = .start ∧ (starting none []).scanner.strap.qualified = none)
      ∧ awake.station ≠ .start := by decide +kernel

theorem witness_RestartsEnterRestarting :
    (awake.station ≠ .off ∧ awake.station ≠ .restarting) ∧ (resting .restarting).station = .restarting
      ∧ heard awake 3 (.restart awake.link.number)
      ∧ (heard awake 3 (.restart 4) ∧ 4 ≠ awake.link.number)
      ∧ (heard (resting .restarting) 3 (.restart (resting .restarting).link.number) ∧ (resting .restarting).station = .restarting) := by
  unfold heard listening; decide

/-- Joining under a policy, the console key off or on. -/
def joining (p : Policy) (on : List Nat) : State :=
  { resting .joining with
    cfg := some { smallConfiguration with policy := p }
    scanner := { awake.scanner with lines := lineStates on } }

theorem small_sensed : smallConfiguration.sensedControls = [(0, 0), (0, 1)] := by decide

theorem resting_motionOk {s : State} (h : s.motion = (resting s.station).motion) (hs : s.station ≠ .awake)
    (hc : s.config.sensedControls = [(0, 0), (0, 1)]) : motionOk s := by
  refine motionOk_of (by rw [h, hc]; rfl) ?_ (by rw [h]; exact List.nodup_nil) (by rw [h]; intro k hk; exact nomatch hk) ?_ (by rw [h]; rfl)
    (by rw [h]; exact Nat.zero_le _)
  · intro r hr
    rw [h] at hr
    simp only [resting, List.mem_cons, List.not_mem_nil, or_false] at hr
    rcases hr with rfl | rfl <;> simp [recordOk, knob, hs, Config.maxRetry]
  · intro r hr hq
    rw [h] at hr
    simp only [resting, List.mem_cons, List.not_mem_nil, or_false] at hr
    rcases hr with rfl | rfl <;> cases hq

theorem joining_sound (p : Policy) (on : List Nat) :
    configured (joining p on) ∧ imageOk (joining p on) ∧ motionOk (joining p on) :=
  ⟨configured_of rfl (.inl rfl) (by cases p <;> decide) rfl, imageOk_of (s := joining p on) rfl rfl (by show smallConfiguration.restrict 0 1#48 = 1#48; decide), resting_motionOk (s := joining p on) rfl (fun h => nomatch h) small_sensed⟩

theorem witness_JoinEndAppliesThePolicy :
    (∀ p ∈ [Policy.cancel, .last, .general, .keep], ∀ on ∈ [[17], []],
        (joining p on).station = .joining ∧ configured (joining p on) ∧ imageOk (joining p on) ∧ motionOk (joining p on))
      ∧ (joining .last [17]).consoleOn = true ∧ (joining .last []).consoleOn = false ∧ awake.station ≠ .joining :=
  ⟨fun p _ on _ => ⟨rfl, joining_sound p on⟩, by decide, by decide, by decide⟩

/-! ### Witnesses: the console's lines -/

/-- Lines 2 and 3 one sample short of a press. -/
def pressing : State :=
  { awake with scanner := { awake.scanner with
      lines := (awake.scanner.lines.set 2 { qualified := false, run := 2 }).set 3 { qualified := false, run := 2 } } }

/-- The index line one sample short of its press. -/
def shoe0 : State :=
  { awake with scanner := { awake.scanner with lines := awake.scanner.lines.set 21 { qualified := false, run := 2 } } }

theorem witness_GroupSampleQualifiesAndHandsOn :
    ((awake.cfg.isSome = true ∧ configured awake ∧ 0 < 48) ∧ sampleCommands awake 0 1#8 = [])
      ∧ ((pressing.cfg.isSome = true ∧ configured pressing) ∧ sampleCommands pressing 0 0x0D#8 = [.setPress 2, .generalPiston 3]
        ∧ sampleCommands pressing 0 0x05#8 = [.setPress 2])
      ∧ ((shoe0.cfg.isSome = true ∧ configured shoe0) ∧ sampleCommands shoe0 2 0x22#8 = [.indexEdge]
        ∧ ∃ n e, n / 8 = 2 ∧ shoe0.config.table[n]? = some e ∧ e.function = .encoderA)
      ∧ State.reset.cfg = none ∧ 48 ≤ 48 :=
  ⟨⟨⟨by decide, awake_configured, by decide⟩, by decide⟩, ⟨⟨by decide, awake_configured⟩, by decide, by decide⟩,
    ⟨⟨by decide, awake_configured⟩, by decide, 19, _, by decide, rfl, by decide⟩, by decide⟩

theorem witness_FixedLineSampleQualifiesBothLines : State.reset.station ≠ .off ∧ unpowered.station = .off := by decide

theorem witness_ControlsActInAwakeAlone :
    ((resting .joining).station ≠ .awake
        ∧ ∀ x ∈ [(3, LineFunction.generalPiston 1), (5, .divisionalPiston 0 1), (2, .set), (6, .generalCancel), (7, .divisionCancel 0),
            (8, .levelUp), (9, .levelDown), (15, .protect), (10, .sequencerNext), (11, .sequencerPrevious), (12, .tutti),
            (13, .crescendoProgram), (14, .crescendoSet)], (resting .joining).functionOfLine x.1 = x.2)
      ∧ (∀ n ∈ [3, 5, 6, 8, 9, 10, 11, 12, 13, 14, 15, 18, 21], (awake.functionOfLine n).plainRelease = true)
      ∧ (awake.functionOfLine 383).isStopSense = false ∧ (awake.functionOfLine 0).plainRelease = false := by decide

theorem dormant_motionOk : motionOk (resting .dormant) := resting_motionOk (s := resting .dormant) rfl (fun h => nomatch h) small_sensed

theorem witness_ConsoleKeyMovesTheStation :
    (awake.functionOfLine 17 = .consoleKey ∧ motionOk awake ∧ awake.station = .awake ∧ (atLine awake 17 false).consoleOn = false)
      ∧ ((resting .dormant).functionOfLine 17 = .consoleKey ∧ motionOk (resting .dormant) ∧ (resting .dormant).station = .dormant
        ∧ (atLine (resting .dormant) 17 true).consoleOn = true)
      ∧ (atLine awake 17 true).consoleOn = true :=
  ⟨⟨by decide, awake_motionOk, by decide, by decide⟩, ⟨by decide, dormant_motionOk, by decide, by decide⟩, by decide⟩

/-! ### Witnesses: recall, cancel and Set -/

theorem witness_PistonRecall :
    awake.station = .awake ∧ awake.setIsHeld = false ∧ configured awake ∧ imageOk awake ∧ awake.functionOfLine 3 = .generalPiston 1
      ∧ awake.functionOfLine 4 = .generalPiston 2 ∧ awake.functionOfLine 5 = .divisionalPiston 0 1
      ∧ newest awake.memory (slotOfPiston awake (.general 1)) ≠ none ∧ newest awake.memory (slotOfPiston awake (.general 2)) = none :=
  ⟨by decide, by decide, awake_configured, awake_imageOk, by decide, by decide, by decide, by decide +kernel,
    unlisted_slot_fails 33⟩

/-- A write queue with no entry to give a slot below 100. -/
def full : MemoryController :=
  { awake.memory with queue := (List.range 32).map fun k => { slot := 100 + k, content := 0#496, source := .service 10 } }

theorem witness_PistonCapture :
    (setHeld.station = .awake ∧ setHeld.setIsHeld = true ∧ setHeld.functionOfLine 3 = .generalPiston 1
        ∧ setHeld.functionOfLine 5 = .divisionalPiston 0 1)
      ∧ (∀ d, (1#8).getLsbD d = (setHeld.config.scope.getLsbD d && setHeld.recallUnit.cancelCounts.getD d 0 == 0))
      ∧ (∀ e, e < 8 → (1#8).getLsbD e = (e == 0))
      ∧ ¬(setHeld.levelProtected = true) ∧ setHeld.supply.low2 = false ∧ roomFor setHeld [32]
      ∧ ({ setHeld with recallUnit := { setHeld.recallUnit with protection := 1#128 } } : State).levelProtected = true
      ∧ ({ setHeld with recallUnit := { setHeld.recallUnit with protection := 1#128 } } : State).overrideActive = false
      ∧ ¬ roomFor { setHeld with memory := full } [32] := by
  refine ⟨by decide, fun d => ?_, by decide, by decide, by decide, by unfold roomFor; decide, by decide, by decide,
    by unfold roomFor; decide⟩
  match d with
  | 0 => decide
  | d + 1 =>
    have h : (1#8).getLsbD (d + 1) = false := by simp [BitVec.getLsbD_ofNat, Nat.testBit_succ]
    rw [show setHeld.config.scope = 1#8 from rfl, h]; rfl

theorem witness_HeldControlsAreCounted :
    (awake.station = .awake ∧ awake.functionOfLine 2 = .set) ∧ (awake.functionOfLine 7 = .divisionCancel 0 ∧ imageOk awake)
      ∧ setHeld.setIsHeld = true ∧ awake.setIsHeld = false :=
  ⟨by decide, ⟨by decide, awake_imageOk⟩, by decide, by decide⟩

theorem witness_GeneralCancelEmptiesEveryDivision :
    awake.station = .awake ∧ awake.functionOfLine 6 = .generalCancel ∧ imageOk awake := ⟨by decide, by decide, awake_imageOk⟩

theorem witness_LevelsProtectionAndLampAnswers :
    (awake.functionOfLine 8 = .levelUp ∧ ¬ awake.config.layout.levels ≤ awake.recallUnit.level)
      ∧ (awake.functionOfLine 9 = .levelDown ∧ awake.recallUnit.level ≤ 1)
      ∧ ({ awake with recallUnit := { awake.recallUnit with level := 2 } } : State).config.layout.levels ≤ 2
      ∧ (awake.functionOfLine 15 = .protect ∧ awake.overrideActive = false)
      ∧ (({ awake with scanner := { awake.scanner with lines := lineStates [16, 17] } } : State).overrideActive = true
        ∧ roomFor awake [28])
      ∧ ((resting .dormant).station = .dormant ∧ (resting .service).station = .service ∧ (resting .restarting).station = .restarting
        ∧ State.reset.station = .start ∧ unpowered.station = .off ∧ State.reset.cfg = none) :=
  ⟨by decide, by decide, by decide, by decide, ⟨by decide, by unfold roomFor; decide⟩, by decide⟩

/-! ### Witnesses: the Sequencer -/

/-- The small station at a cursor of its list. -/
def atCursor (n : Nat) : State := { awake with sequencer := { awake.sequencer with cursor := n } }

theorem witness_SequencerSteps :
    (configured awake ∧ imageOk awake ∧ levelsOk awake ∧ awake.setIsHeld = false ∧ awake.functionOfLine 10 = .sequencerNext
        ∧ awake.functionOfLine 11 = .sequencerPrevious)
      ∧ (awake.sequencer.cursor + 1 = 2 ∧ awake.sequencer.steps[2 - 1]? = some .generalCancel)
      ∧ (levelsOk (atCursor 2) ∧ (atCursor 2).sequencer.steps[(2 - 1) - 1]? = some (.general 1)
        ∧ (atCursor 2).sequencer.steps[(2 + 1) - 1]? = some (.divisional 0 1))
      ∧ (levelsOk (atCursor 3) ∧ (atCursor 3).sequencer.cursor = (atCursor 3).sequencer.steps.length)
      ∧ (levelsOk (atCursor 0) ∧ (atCursor 0).sequencer.cursor ≤ 1 ∧ awake.sequencer.cursor ≤ 1) := by
  refine ⟨⟨awake_configured, awake_imageOk, awake_levelsOk, by decide, by decide, by decide⟩, by decide, ⟨?_, by decide, by decide⟩,
    ⟨?_, by decide⟩, ?_, by decide, by decide⟩ <;> (unfold levelsOk; decide)

theorem witness_SequencerEdits :
    (setHeld.station = .awake ∧ setHeld.setIsHeld = true ∧ levelsOk setHeld ∧ setHeld.functionOfLine 10 = .sequencerNext
        ∧ setHeld.functionOfLine 11 = .sequencerPrevious)
      ∧ (False ↔ setHeld.sequencer.steps.length = setHeld.config.layout.steps) ∧ (False ↔ setHeld.sequencer.cursor = 0)
      ∧ ¬(setHeld.levelProtected = true) ∧ roomFor setHeld [16349]
      ∧ (levelsOk { setHeld with sequencer := { steps := List.replicate 16 .generalCancel, cursor := 16 } }
        ∧ (True ↔ (List.replicate 16 SequenceStep.generalCancel).length = setHeld.config.layout.steps)) := by
  refine ⟨⟨by decide, by decide, ?_, by decide, by decide⟩, by decide, by decide, by decide, by unfold roomFor; decide, ?_, by decide⟩
    <;> (unfold levelsOk; decide)

/-- A clear of the small layout: 2 levels of 3 pistons, 2 sequence slots, 33 crescendo slots. -/
def smallClear : Clear :=
  { layout := smallConfiguration.layout, partition := partitionOf smallConfiguration.layout, scope := 1#8, before := 0, next := 0 }

theorem witness_RecordsReadBackAsFormed :
    emptySets.length = 8
      ∧ (∀ x ∈ [SequenceStep.general 255, .divisional 255 255, .generalCancel],
          match x with | .general g => g < 256 | .divisional d n => d < 256 ∧ n < 256 | .generalCancel => True)
      ∧ (writesOk awake ∧ ∃ e ∈ awake.memory.queue, e.slot = 32 ∧ newest awake.memory 32 = some e.content)
      ∧ writesOk (inFlight .awake (writing 16383 .refresh false))
      ∧ (layoutOk smallClear.layout = true ∧ smallClear.layout.fits = true
        ∧ smallClear.layout.divisionals.length = smallClear.layout.divisions ∧ smallClear.partition = partitionOf smallClear.layout
        ∧ (List.range 43).map (clearSlot smallClear) = [28, 29, 32, 33, 34, 35, 36, 37] ++ (List.range 35).map (16349 + ·)
        ∧ clearContent smallClear 4 = 1#496 ∧ clearContent smallClear 42 = 0#496) := by
  refine ⟨by decide, fun x hx => ?_, ⟨awake_writesOk, _, by simp [awake], rfl, rfl⟩, ?_, by decide, by decide, by decide, rfl, by decide, ?_, ?_⟩
  · simp only [List.mem_cons, List.not_mem_nil, or_false] at hx
    rcases hx with rfl | rfl | rfl <;> decide
  · exact ⟨by decide, by decide, fun f hf h => by cases hf; cases h⟩
  · decide +kernel
  · decide +kernel

/-! ### Witnesses: crescendo and tutti -/

/-- Set held, program 1 at stage 1. -/
def atStage : State := { setHeld with crescendo := { setHeld.crescendo with program := 1, stage := 1 } }

theorem witness_TuttiAndProgramPresses :
    awake.station = .awake ∧ (awake.functionOfLine 12 = .tutti ∧ awake.setIsHeld = false)
      ∧ awake.functionOfLine 13 = .crescendoProgram ∧ awake.functionOfLine 14 = .crescendoSet := by decide

theorem witness_CrescendoCaptures :
    (atStage.station = .awake ∧ atStage.setIsHeld = true ∧ atStage.functionOfLine 14 = .crescendoSet
        ∧ atStage.functionOfLine 12 = .tutti ∧ atStage.crescendo.program = 1 ∧ atStage.crescendo.stage = 1
        ∧ atStage.crescendo.held = false ∧ atStage.supply.low2 = false ∧ atStage.crescendo.tutti = false)
      ∧ roomFor atStage [16359] ∧ roomFor atStage [16383]
      ∧ (setHeld.crescendo.program = 0 ∧ setHeld.crescendo.stage = 0)
      ∧ ({ atStage with supply := low } : State).supply.low2 = true
      ∧ ¬ roomFor { atStage with memory := full } [16383]
      ∧ ({ atStage with crescendo := { atStage.crescendo with tutti := true } } : State).crescendo.tutti = true :=
  ⟨by decide, by unfold roomFor; decide, by unfold roomFor; decide, by decide, by decide, by unfold roomFor; decide, by decide⟩

/-- A station without encoder lines. -/
def shoeless : State := { awake with cfg := some { smallConfiguration with table := [entry (.stopSense 0 0), entry (.stopSense 0 1)] } }

theorem witness_TheShoeIsCounted :
    (awake.station = .awake ∧ awake.lineOf .encoderA = some 19 ∧ awake.lineOf .encoderB = some 20 ∧ awake.lineOf .encoderIndex = some 21)
      ∧ (false = awake.crescendo.refA ∧ false = awake.crescendo.refB)
      ∧ (true = !awake.crescendo.refB ∧ false = awake.crescendo.refA)
      ∧ (false = awake.crescendo.refB ∧ true = !awake.crescendo.refA)
      ∧ (true = !awake.crescendo.refA ∧ true = !awake.crescendo.refB)
      ∧ ((resting .restarting).station = .restarting ∧ (resting .restarting).lineOf .encoderIndex = some 21)
      ∧ ((resting .dormant).station ≠ .joining ∧ (resting .dormant).station ≠ .awake ∧ (resting .dormant).lineOf .encoderA = some 19)
      ∧ (shoeless.lineOf .encoderIndex = none ∧ shoeless.lineOf .encoderA = none) := by decide

theorem witness_CalibrationAndStage :
    (0 + 200 ≤ 256 ∧ (-127 : Int) ≤ -127 ∧ (127 : Int) ≤ 127)
      ∧ (shoe.closed + 200 ≤ shoe.opened ∧ -127 ≤ shoe.bow ∧ shoe.bow ≤ 127 ∧ 610 ≤ 4095)
      ∧ (let r := min 40 (calibrated shoe 610 * 41 / 1000)
         let rh := min 40 (min 1000 (calibrated shoe 610 + 8) * 41 / 1000)
         r = 21 ∧ r > 20 ∧ (r ≤ 23 ∧ rh < 23) ∧ (r ≤ 22 ∧ rh = 22) ∧ (r ≤ 21 ∧ 21 ≤ rh)) := by decide

theorem witness_AdditionsAreUnions :
    (0 < 8 ∧ 0 < 48 ∧ awake.config.controlsOf 0 ≤ 48) ∧ (7 < 8 ∧ 47 < 48 ∧ awake.config.controlsOf 7 ≤ 48) := by decide

/-! ### Witnesses: drawknob motion -/

theorem moving_sound {a b : MotionRecord} {queue : List (Nat × Nat)} {energized : Nat} (hk : [a, b].map MotionRecord.key = [(0, 0), (0, 1)])
    (ha : recordOk a) (hb : recordOk b) (hu : a.state ≠ .unaligned ∧ b.state ≠ .unaligned) (hn : queue.Nodup)
    (hq : ∀ k ∈ queue, ∃ r ∈ [a, b], r.key = k ∧ r.state = .queued) (hs : ∀ r ∈ [a, b], r.state = .queued → r.key ∈ queue)
    (he : energized = [a, b].countP (·.coil.isSome)) (hb1 : energized ≤ 1) :
    configured (moving a b queue energized) ∧ imageOk (moving a b queue energized) ∧ motionOk (moving a b queue energized) := by
  refine ⟨awake_configured, awake_imageOk, motionOk_of (hk.trans small_sensed.symm) ?_ hn hq hs he hb1⟩
  intro r hr
  simp only [moving, List.mem_cons, List.not_mem_nil, or_false] at hr
  rcases hr with rfl | rfl
  · exact ⟨ha, fun h => absurd h hu.1, fun h => absurd rfl h⟩
  · exact ⟨hb, fun h => absurd h hu.2, fun h => absurd rfl h⟩

/-- Control 1 at rest. -/
def still : MotionRecord := knob 1 false false .aligned

def settlingKnob (sensed : Bool) (retry : Nat) : MotionRecord :=
  { knob 0 true sensed .settling with retry := retry, window := some 20 }
def stuckKnob : MotionRecord := { knob 0 true false .stuck with retry := 2 }

theorem still_ok : recordOk still := by simp [still, recordOk, knob, Config.maxRetry]

theorem driving_sound : configured driving ∧ imageOk driving ∧ motionOk driving :=
  moving_sound (by decide) (by simp [recordOk, knob, Config.maxRetry]) still_ok (by decide) (by decide) (by decide) (by decide)
    (by decide) (by decide)

theorem settling_sound (sensed : Bool) (retry : Nat) (h : retry ≤ 2) :
    configured (moving (settlingKnob sensed retry) still [] 0) ∧ imageOk (moving (settlingKnob sensed retry) still [] 0)
      ∧ motionOk (moving (settlingKnob sensed retry) still [] 0) :=
  moving_sound rfl (by simp [settlingKnob, recordOk, knob, Config.maxRetry, h]) still_ok ⟨nofun, nofun⟩ (by decide)
    (fun _ h => nomatch h) (by intro r hr hq; simp only [List.mem_cons, List.not_mem_nil, or_false] at hr; rcases hr with rfl | rfl <;> cases hq)
    rfl (by decide)

theorem stuck_sound : configured (moving stuckKnob still [] 0) ∧ imageOk (moving stuckKnob still [] 0)
    ∧ motionOk (moving stuckKnob still [] 0) :=
  moving_sound (by decide) (by simp [stuckKnob, recordOk, knob, Config.maxRetry]) still_ok (by decide) (by decide) (by decide)
    (by decide) (by decide) (by decide)

theorem queued_sound : configured (moving (knob 0 true false .queued) still [(0, 0)] 0)
    ∧ imageOk (moving (knob 0 true false .queued) still [(0, 0)] 0) ∧ motionOk (moving (knob 0 true false .queued) still [(0, 0)] 0) :=
  moving_sound (by decide) (by simp [recordOk, knob, Config.maxRetry]) still_ok (by decide) (by decide) (by decide) (by decide)
    (by decide) (by decide)

theorem witness_SenseChangesActByTheState :
    (awake.functionOfLine 0 = .stopSense 0 0 ∧ configured awake ∧ imageOk awake ∧ motionOk awake ∧ awake.station = .awake
        ∧ awake.motion.find 0 0 = some (knob 0 true true .aligned))
      ∧ (∀ s ∈ [driving, moving (settlingKnob false 1) still [] 0, moving stuckKnob still [] 0,
            moving (knob 0 true false .queued) still [(0, 0)] 0],
          (configured s ∧ imageOk s ∧ motionOk s) ∧ s.functionOfLine 0 = .stopSense 0 0 ∧ s.station = .awake
            ∧ ∃ r, s.motion.find 0 0 = some r ∧ r.sensed ≠ true ∧ r.state ≠ .aligned)
      ∧ (motionOk (resting .dormant) ∧ (resting .dormant).motion.find 0 0 = some (knob 0 true true .unaligned))
      ∧ (motionOk (joining .last [17]) ∧ (joining .last [17]).motion.find 0 0 = some (knob 0 true true .unaligned)) := by
  refine ⟨⟨by decide, awake_configured, awake_imageOk, awake_motionOk, by decide, by decide⟩, ?_, ⟨dormant_motionOk, by decide⟩,
    (joining_sound _ _).2.2, by decide⟩
  intro s hs
  simp only [List.mem_cons, List.not_mem_nil, or_false] at hs
  rcases hs with rfl | rfl | rfl | rfl
  · exact ⟨driving_sound, by decide, by decide, _, rfl, by decide, by decide⟩
  · exact ⟨settling_sound _ _ (by decide), by decide, by decide, _, rfl, by decide, by decide⟩
  · exact ⟨stuck_sound, by decide, by decide, _, rfl, by decide, by decide⟩
  · exact ⟨queued_sound, by decide, by decide, _, rfl, by decide, by decide⟩

theorem witness_PulseAndSettleEnds :
    (configured driving ∧ motionOk driving ∧ ∃ r, driving.motion.find 0 0 = some r ∧ r.coil.isSome = true)
      ∧ (∀ r, awake.motion.find 0 0 = some r → r.coil = none)
      ∧ (∀ x ∈ [(true, 0), (false, 1), (false, 2)], let s := moving (settlingKnob x.1 x.2) still [] 0
          (configured s ∧ imageOk s ∧ motionOk s) ∧ s.motion.find 0 0 = some (settlingKnob x.1 x.2))
      ∧ (∀ r, awake.motion.find 7 47 = some r → r.state ≠ .settling) := by
  refine ⟨⟨driving_sound.1, driving_sound.2.2, _, rfl, by decide⟩, fun r h => ?_, ?_, fun r h => by cases h⟩
  · cases h; rfl
  · intro x hx
    simp only [List.mem_cons, List.not_mem_nil, or_false] at hx
    rcases hx with rfl | rfl | rfl
    · exact ⟨settling_sound _ _ (by decide), rfl⟩
    · exact ⟨settling_sound _ _ (by decide), rfl⟩
    · exact ⟨settling_sound _ _ (by decide), rfl⟩

/-! ### Witnesses: supply, faults, memory -/

theorem witness_SupplyCommandsJudgeBothConditions :
    (10499 < 10500 ∧ 11000 < 11001 ∧ 8999 < 9000 ∧ 9500 < 9501) ∧ awake.station ≠ .off ∧ unpowered.station = .off := by decide

theorem witness_AcknowledgeClearsWhatDoesNotPersist :
    ((moving stuckKnob still [] 0).functionOfLine 18 = .faultAcknowledge ∧ motionOk (moving stuckKnob still [] 0)
        ∧ (moving stuckKnob still [] 0).station = .awake)
      ∧ (motionOk (joining .last [17]) ∧ (joining .last [17]).functionOfLine 18 = .faultAcknowledge ∧ (joining .last [17]).station = .joining)
      ∧ motionOk (resting .dormant) ∧ (resting .dormant).functionOfLine 18 = .faultAcknowledge :=
  ⟨⟨by decide, stuck_sound.2.2, by decide⟩, ⟨(joining_sound _ _).2.2, by decide, by decide⟩, dormant_motionOk, by decide⟩

theorem witness_ReadbackSettlesTheWrite :
    (∀ f ∈ [writing 0 .queue false, writing 16383 .refresh true, writing 28 .clear true],
        (inFlight .awake f).memory.flight = some f ∧ f.slot < 16384 ∧ Memory.wf (inFlight .awake f).memory.cells = true
          ∧ (inFlight .awake f).memory.retention < 16384 ∧ (0#512 : SlotImage) ≠ slotOf f.content)
      ∧ awake.memory.flight = none := by
  refine ⟨fun f hf => ?_, rfl⟩
  have h : (0#512 : SlotImage) ≠ slotOf 1#496 := by
    intro h
    have h0 := congrArg (fun x => (SlotImage.content x).getLsbD 0) h
    simp only [slotOf_content] at h0
    simp [SlotImage.content] at h0
  simp only [List.mem_cons, List.not_mem_nil, or_false] at hf
  rcases hf with rfl | rfl | rfl <;> exact ⟨rfl, by decide, rfl, by decide, h⟩

theorem witness_RetentionRefresh :
    awake.station = .awake
      ∧ ¬(State.reset.station = .joining ∨ State.reset.station = .awake ∨ State.reset.station = .dormant)
      ∧ ((refreshing 16383).station = .dormant ∧ 2000 ≤ (refreshing 16383).memory.idle ∧ (refreshing 16383).memory.queue = []
        ∧ (refreshing 16383).memory.flight = none ∧ (refreshing 16383).supply.low2 = false ∧ (refreshing 16383).memory.clear = none
        ∧ (refreshing 16383).memory.retention < 16384)
      ∧ ¬ 2000 ≤ awake.memory.idle := by decide

theorem witness_SlotAddressesKeepToTheirRegions :
    layoutOk gallery = true ∧ gallery.fits = true ∧ layoutOk smallConfiguration.layout = true
      ∧ smallConfiguration.layout.fits = true := by decide

/-! ### Witnesses: heartbeat and peers -/

/-- A station in Service, number 2, on an idle line, with an empty queue or the slots a clear reads waiting. -/
def serving (slots : List Nat) : State :=
  { State.reset with
    station := .service
    link := { State.reset.link with number := 2, idle := true, released := 12, slotsBegun := some 0 }
    memory := { State.reset.memory with queue := slots.map fun n => { slot := n, content := block n, source := .service 10 } } }

theorem witness_HeartbeatPeriodHandsTheFrames :
    (∀ x ∈ [(resting .joining, Station.joining), (awake, .awake), (resting .dormant, .dormant), (serving [], .service),
        ({ serving [] with station := .unconfigured }, .unconfigured)], x.1.station = x.2)
      ∧ unpowered.station = .off ∧ State.reset.station = .start ∧ (resting .restarting).station = .restarting := by decide

/-- The small station with its peer in a presence. -/
def hearing (p : Presence) : State := { awake with peers := some { console with presence := p } :: List.replicate 13 none }

theorem witness_AgesSilenceAndLosePeers :
    (∀ p ∈ [Presence.present, .silent, .absent],
        (hearing p).station = .awake ∧ (hearing p).peers[0]? = some (some { console with presence := p }))
      ∧ (awake.peers.getD 13 none = none ∧ State.reset.station ≠ .joining ∧ State.reset.station ≠ .awake
        ∧ State.reset.station ≠ .dormant) := by decide

def beat (start : Bool) (cause : StartCause) (sequence : Nat) : HeartbeatContent := ⟨1, .awake, start, cause, sequence, 0#16, none⟩

def chamber (n : Nat) : Option Peer := some { console with station := if n = 0 then 1 else n + 3, kind := .chamber }

/-- Every record taken, the first in a presence. -/
def crowded (p : Presence) : State :=
  { awake with peers := some { console with presence := p } :: (List.range 13).map chamber }

theorem witness_NewSendersTakeARecord :
    (heard awake 4 (.heartbeat (beat false .powerOn 0)) ∧ (∀ p ∈ awake.peers.reduceOption, ¬(p.station = 4 ∧ p.kind = .combination))
        ∧ awake.peers[1]? = some none ∧ ∀ k, k < 1 → awake.peers[k]? ≠ some none)
      ∧ (heard (crowded .absent) 4 (.heartbeat (beat false .powerOn 0))
        ∧ (∀ p ∈ (crowded .absent).peers.reduceOption, ¬(p.station = 4 ∧ p.kind = .combination))
        ∧ (∀ p ∈ (crowded .absent).peers, p ≠ none)
        ∧ (crowded .absent).peers[0]? = some (some { console with presence := .absent })
        ∧ ∀ k q, (crowded .absent).peers[k]? = some (some q) → q.presence = .absent → k = 0)
      ∧ (heard (crowded .silent) 4 (.heartbeat (beat false .powerOn 0))
        ∧ ∀ p ∈ (crowded .silent).peers, ∃ q, p = some q ∧ q.presence ≠ .absent) := by
  refine ⟨⟨by unfold heard listening; decide, by decide, by decide, by decide⟩,
    ⟨by unfold heard listening; decide, by decide, by decide, by decide, fun k q hq hp => ?_⟩,
    by unfold heard listening; decide, fun p hp => ?_⟩
  · have h : ∀ k, k < 14 → ((crowded .absent).peers[k]?.any fun p => p.any (·.presence == .absent)) = true → k = 0 := by decide
    have hk : k < 14 := (List.getElem?_eq_some_iff.1 hq).1
    exact h k hk (by rw [hq]; simpa using hp)
  · have h : ∀ p ∈ (crowded .silent).peers, (p.any fun q => q.presence != .absent) = true := by decide
    cases p with
    | none => exact absurd (h none hp) (by decide)
    | some q => exact ⟨q, rfl, by simpa using h (some q) hp⟩

theorem hearing_peersOk (p : Presence) : peersOk (hearing p) := by cases p <;> (unfold peersOk peerOk; decide)

theorem witness_HeartbeatsAreJudged :
    (∀ p ∈ [Presence.present, .silent, .absent], ∀ h ∈ [beat false .powerOn 0, beat false .powerOn 1, beat true .powerOn 0, beat false .restartLine 0],
        heard (hearing p) 3 (.heartbeat h) ∧ peersOk (hearing p) ∧ (hearing p).station = .awake
          ∧ (hearing p).peers[0]? = some (some { console with presence := p }) ∧ h.kind = 1) := by
  intro p hp h hh
  refine ⟨?_, hearing_peersOk p, rfl, rfl, ?_⟩
  · simp only [List.mem_cons, List.not_mem_nil, or_false] at hp hh
    rcases hp with rfl | rfl | rfl <;> rcases hh with rfl | rfl | rfl | rfl <;> (unfold heard listening; decide)
  · simp only [List.mem_cons, List.not_mem_nil, or_false] at hh
    rcases hh with rfl | rfl | rfl | rfl <;> rfl

/-! ### Witnesses: received frames and the line -/

theorem witness_RegistrationFramesAreMerged :
    (heard awake 3 (.registrationChange 0 ⟨6#16, 3⟩ 7#48) ∧ awake.image[0]? = some ⟨1#48, ⟨5#16, 1⟩⟩ ∧ newer ⟨6#16, 3⟩ ⟨5#16, 1⟩ = true)
      ∧ (heard awake 3 (.registrationRefresh 0 ⟨5#16, 1⟩ 7#48) ∧ newer ⟨5#16, 1⟩ ⟨5#16, 1⟩ = false)
      ∧ (heard awake 3 (.registrationChange 1 ⟨6#16, 3⟩ 7#48) ∧ awake.image.length ≤ 1)
      ∧ heard (serving []) 3 (.registrationChange 0 ⟨6#16, 3⟩ 7#48) := by
  refine ⟨⟨?_, by decide, by decide⟩, ⟨?_, by decide⟩, ⟨?_, by decide⟩, ?_⟩ <;> (unfold heard listening; decide)

theorem witness_CrescendoFramesBecomeContributions :
    (heard awake 3 (.crescendo ⟨3, 60, true, [3#48]⟩) ∧ peersOk awake ∧ awake.peers[0]? = some (some console))
      ∧ (heard awake 4 (.crescendoRepeat ⟨0, 0, false, [0#48]⟩)
        ∧ ∀ p ∈ awake.peers.reduceOption, ¬(p.station = 4 ∧ p.kind = .combination))
      ∧ heard (serving []) 3 (.crescendo ⟨0, 0, false, [0#48]⟩) := by
  refine ⟨⟨?_, awake_peersOk, by decide⟩, ⟨?_, by decide⟩, ?_⟩ <;> (unfold heard listening; decide)

/-- Bytes with their check behind them (R172). -/
def checked (l : List Nat) : List Byte := l.map (BitVec.ofNat 8) ++ wordBytes (crc (l.map (BitVec.ofNat 8))).toNat

theorem witness_FramesThatReachNoBlock :
    (¬ listening State.reset ∧ ¬ listening unpowered ∧ ¬ listening { awake with link := { awake.link with receiving := false } })
      ∧ (heard awake 3 (.faultNotice .encoder) ∧ heard (serving []) 3 (.serviceReply 8 0 .failedCheck none))
      ∧ (listening awake ∧ listening (serving [])
        ∧ ∀ f ∈ [Frame.faultNotice .encoder, .restart 2, .registrationChange 0 ⟨6#16, 3⟩ 7#48], acceptable 16 f = false ∧ acceptable 15 f = true)
      ∧ (discarded (some .idleTooEarly) [] ∧ ∀ b ∈ [checked [3, 13, 0], checked [3, 6, 2, 0, 0], checked [3, 6, 1, 11],
          checked [3, 7, 4, 8, 0, 0, 9], checked [3, 3, 6, 1, 0, 16, 0, 0, 0], checked [3, 3, 6, 1, 2, 0, 0, 0, 0]], discarded none b)
      ∧ (¬ discarded none (checked [3, 6, 1, 10]) ∧ ¬ discarded none (checked [15, 3, 6, 9, 5, 0x31, 15, 0, 0]))
      ∧ ∀ f ∈ [Frame.registrationChange 0 ⟨6#16, 3⟩ 7#48, .registrationRefresh 0 ⟨6#16, 3⟩ 7#48, .crescendo ⟨0, 0, false, [0#48]⟩,
          .crescendoRepeat ⟨0, 0, false, [0#48]⟩, .heartbeat (beat false .powerOn 0), .faultNotice .encoder,
          .serviceReply 8 0 .failedCheck none, .configurationRead 2 0, .configurationWrite 2 0 0#496, .slotWrite 2 0 0#496,
          .memoryClear 2, .restart 2], acceptable awake.link.number f = true := by
  refine ⟨by unfold listening; decide, ⟨by unfold heard listening; decide, by unfold heard listening; decide⟩,
    ⟨by unfold listening; decide, by unfold listening; decide, by decide⟩, ⟨by unfold discarded; decide, ?_⟩, ?_, by decide⟩
  · unfold discarded; decide +kernel
  · unfold discarded; decide +kernel

theorem witness_FramesReadBackAsSent :
    acceptable 15 (.serviceReply 12 16383 .content (some 1#496)) = true ∧ acceptable 1 (.heartbeat ⟨255, .service, true, .restartFrame, 15, 0xFFFF#16, some (65535, 65535)⟩) = true
      ∧ acceptable 2 (.crescendo ⟨3, 60, true, List.replicate 8 0#48⟩) = true
      ∧ awake.link.outgoing = none ∧ ∃ s : State, s.link.outgoing = some (.heartbeat (beat false .powerOn 0)) :=
  ⟨by decide, by decide, by decide, by decide,
    ⟨{ awake with link := { awake.link with outgoing := some (.heartbeat (beat false .powerOn 0)) } }, by decide⟩⟩

theorem witness_ServiceReadsAndWrites :
    heard (serving []) 3 (.configurationRead (serving []).link.number 31)
      ∧ (∀ f ∈ [Frame.configurationRead 4 0, .configurationWrite 4 0 0#496, .slotWrite 4 0 0#496, .memoryClear 4],
          heard awake 3 f ∧ 4 ≠ awake.link.number)
      ∧ (heard awake 3 (.configurationWrite awake.link.number 31 0#496) ∧ awake.station ≠ .service)
      ∧ (heard (serving []) 3 (.slotWrite (serving []).link.number 16384 0#496) ∧ (serving []).station = .service ∧ 16383 < 16384)
      ∧ (heard (serving []) 3 (.slotWrite (serving []).link.number 16383 0#496) ∧ roomFor (serving []) [16383])
      ∧ ¬ roomFor { serving [] with memory := full } [31] := by
  unfold heard listening roomFor; decide

theorem witness_MemoryClearIsTakenOrRefused :
    (heard awake 3 (.memoryClear awake.link.number) ∧ awake.station ≠ .service)
      ∧ (heard (serving [1, 30, 31]) 3 (.memoryClear (serving [1, 30, 31]).link.number) ∧ (serving [1, 30, 31]).station = .service
        ∧ (serving [1, 30, 31]).memory.clear = none ∧ newest (serving [1, 30, 31]).memory 1 = some (block 1)
        ∧ newest (serving [1, 30, 31]).memory 30 = some (block 30) ∧ newest (serving [1, 30, 31]).memory 31 = some (block 31)
        ∧ layoutOk (layoutOf (block 1)) = true ∧ (layoutOf (block 1)).fits = true)
      ∧ newest (serving []).memory 1 = none := by
  refine ⟨⟨by unfold heard listening; decide, by decide⟩, ⟨by unfold heard listening; decide, ?_⟩, unlisted_slot_fails 1⟩
  decide +kernel

/-- A line that is idle, with a heartbeat waiting. -/
def contending : State := { awake with link := { awake.link with idle := true, receiving := false, slotsBegun := some 0, routine := [.heartbeat (beat false .powerOn 0)] } }

theorem witness_LineCommandsMoveTheLink :
    (awake.station ≠ .off ∧ awake.station ≠ .start ∧ awake.link.idle = false ∧ awake.link.outgoing = none)
      ∧ (contending.link.idle = true ∧ contending.link.outgoing = none ∧ contending.link.urgent = []
        ∧ contending.link.routine = .heartbeat (beat false .powerOn 0) :: [] ∧ contending.link.listenOnly = false ∧ 16 ≤ 16 ∧ 15 < 16)
      ∧ (∃ s : State, s.link.outgoing = some (.heartbeat (beat false .powerOn 0)) ∧ s.station = .awake
          ∧ isUrgent (.heartbeat (beat false .powerOn 0)) = false)
      ∧ (∃ s : State, s.link.outgoing = some (.crescendo ⟨0, 0, false, [0#48]⟩) ∧ s.station = .awake
          ∧ isUrgent (.crescendo ⟨0, 0, false, [0#48]⟩) = true)
      ∧ unpowered.station = .off :=
  ⟨by decide, by decide,
    ⟨{ awake with link := { awake.link with outgoing := some (.heartbeat (beat false .powerOn 0)) } }, by decide⟩,
    ⟨{ awake with link := { awake.link with outgoing := some (.crescendo ⟨0, 0, false, [0#48]⟩) } }, by decide⟩, by decide⟩

/-! ### Steps of the small station -/

/-- The station a command leaves. -/
def after (c : Instr) (s : State) : State :=
  match exec c s with
  | .next t => t
  | _ => State.reset

/-- A recall of general 1 draws both controls under the successor stamp, pulses the one that differs with the on-coil, and sends one
urgent frame (R5, R6, R24, R106 to R108). -/
theorem test_recall :
    let t := after (.generalPiston 3) awake
    t.image = [⟨3#48, ⟨6#16, 2⟩⟩] ∧ t.motion.energized = 1 ∧ t.coil 0 1 = some true ∧ t.coil 0 0 = none
      ∧ t.link.urgent = [.registrationChange 0 ⟨6#16, 2⟩ 3#48] ∧ t.litPiston = some (.general 1) := by decide +kernel

/-- A capture onto general 2 with the division held by its Division cancel writes an empty scope (R32, R33). -/
theorem test_capture :
    let s := { setHeld with recallUnit := { setHeld.recallUnit with cancelCounts := [1] } }
    let t := after (.generalPiston 4) s
    t.memory.queue.map (·.slot) = [32, 33] ∧ t.recallUnit.live = some (1, .general 2)
      ∧ t.recallUnit.snapshot.map (·.scope) = some 0#8 := by decide +kernel

/-- A hand motion of an Aligned control is a local change of its division (R113). -/
theorem test_hand_motion : (after (.stopSenseChange 1 true) awake).image = [⟨3#48, ⟨6#16, 2⟩⟩] := by decide +kernel

/-- A third failed pulse leaves the control Stuck and latches STOP_STUCK (R110, R111). -/
theorem test_stuck :
    let t := after (.settleEnd 0 0) (moving (settlingKnob false 2) still [] 0)
    t.motion.find 0 0 = some { settlingKnob false 2 with state := .stuck, window := none } ∧ t.latched .stopStuck = true := by
  decide +kernel

/-- At 10.499 V Low1 comes into force, and its notice is handed (R156, R160). -/
theorem test_low1 :
    let t := after (.low1Entry 10499) awake
    t.supply = { low1 := true, low2 := false } ∧ t.latched .supplyLow1 = true ∧ t.link.routine = [.faultNotice .supplyLow1] := by
  decide +kernel

/-- Three rows of the table on an idle line: a heartbeat waits as routine frame of station 2, whose slot is 16 (R139 to R141). -/
theorem test_slots : (after (.sendBegin 15) contending).link.outgoing = none
    ∧ (after (.sendBegin 16) contending).link.outgoing = some (.heartbeat (beat false .powerOn 0)) := by decide +kernel

/-- After a damaged frame the rest of the line belongs to it: a registration change that ends before the next idle changes nothing,
one that ends after it is adopted (R134). -/
theorem test_damaged_frame :
    let f : Instr := .registrationChange 3 0 ⟨9#16, 3⟩ 2#48
    let damaged := after (.frameDiscarded (some .stopBitDriven) []) awake
    (after f damaged).image = awake.image
      ∧ (after f (after .lineIdle damaged)).image = [⟨2#48, ⟨9#16, 3⟩⟩] := by decide +kernel

/-- A hand-over that changes track A alone sets its run count to 0 and leaves that of track B (R121, R127). -/
theorem test_handover :
    let s := { awake with scanner := { awake.scanner with
      lines := (awake.scanner.lines.set 19 { qualified := false, run := 1 }).set 20 { qualified := false, run := 2 } } }
    let t := after (.encoderHandover true false) s
    t.scanner.lines[19]? = some { qualified := true, run := 0 } ∧ t.scanner.lines[20]? = some { qualified := false, run := 2 }
      ∧ t.crescendo.count = 1 := by decide +kernel

end Sys2Proof.Tests
end

section
/-!
PROOFS. The statements about the registration image and the events that change or read it. First what each shared operation leaves
of the image, then each statement from those lemmas and the lemmas of Sys2Proof/Laws.
-/

namespace Sys2Proof.Proofs

open Sys2Proof Sys2Proof.Machine Sys2Proof.Safety

/-! ### The station after reset and after a start -/

/-- Settles O5: the start values meet every block's invariant, block by block. -/
theorem resetIsSound : Obligations.ResetIsSound := by
  unfold Obligations.ResetIsSound
  refine ⟨reset_memory_wf, ⟨rfl, rfl⟩, ⟨rfl, by simp [State.reset]⟩, ?writes, ?regions, ?levels, ?crescendo, ?motion,
    ?link, ?peers, ?supply⟩
  case writes => simp [writesOk, State.reset, MemoryController.waiting]
  case regions => simp [regionsOk, clearOk, State.reset, Config.slotCount]
  case levels => simp [levelsOk, State.reset]
  case crescendo => simp [crescendoOk, State.reset, Config.phaseErrorLimit, Config.repeatPeriods]
  case motion => simp [motionOk, State.reset, State.config, noConfiguration, Configuration.sensedControls]
  case link => simp [linkOk, State.reset]
  case peers => exact ⟨rfl, by simp [State.reset], by simp [State.reset], fun _ _ => rfl⟩
  case supply => simp [supplyOk, State.reset]

/-- Settles O19: each command is the start of its cause, or leaves the state; the start values stand in the reset state. -/
theorem startsTakeTheStartValues : Obligations.StartsTakeTheStartValues := by
  unfold Obligations.StartsTakeTheStartValues
  refine ⟨⟨fun s mv h => ?_, fun s mv h => ?_, fun s h1 h2 h3 => ?_, fun s h => ?_⟩, ?_⟩
  · rw [exec, execPowerOn, if_pos h]
    simp only [startState, supplyFaults, firstComparison, State.setHeld_supply, State.setSupply_supply, decide_eq_true_eq]
    rfl
  · rw [exec, execPowerOn, if_neg h]
  · rw [exec, execStartAfterRestarting, if_pos ⟨h1, h2, h3⟩]
    rfl
  · rw [exec, execStartAfterRestarting, if_neg h]
  · repeat' constructor

/-! ### The stamp order (R3) -/

/-- The distance from era f to era e on the era circle (R3). -/
def eraDistance (e f : Era) : Nat := (e - f).toNat

theorem eraDistance_eq (e f : Era) : eraDistance e f = (e.toNat + 65536 - f.toNat) % 65536 := by
  have := f.isLt
  rw [eraDistance, BitVec.toNat_sub]
  congr 1
  omega

/-- The cases of R3 over numbers: the order of two stamps of eras e and f and origins o and p. -/
theorem newer_iff (a b : Stamp) : newer a b = true ↔
    (a.era ≠ 0#16 ∧ b.era = 0#16)
      ∨ (a.era ≠ 0#16 ∧ b.era ≠ 0#16
        ∧ ((1 ≤ eraDistance a.era b.era ∧ eraDistance a.era b.era ≤ 32767)
          ∨ (eraDistance a.era b.era = 32768 ∧ a.origin > b.origin)
          ∨ (eraDistance a.era b.era = 32768 ∧ a.origin = b.origin ∧ a.era.toNat > b.era.toNat)
          ∨ (a.era = b.era ∧ a.origin > b.origin))) := by
  unfold newer
  by_cases ha : a.era = 0#16
  · simp [ha]
  · by_cases hb : b.era = 0#16
    · simp [ha, hb]
    · simp [ha, hb, eraDistance, or_assoc, and_assoc]

/-- Two different eras lie the whole circle apart, there and back. -/
theorem eraDistance_add {e f : Era} (h : e ≠ f) :
    0 < eraDistance e f ∧ 0 < eraDistance f e ∧ eraDistance e f + eraDistance f e = 65536 := by
  have he := e.isLt
  have hf := f.isLt
  have hne : e.toNat ≠ f.toNat := fun hn => h (BitVec.eq_of_toNat_eq hn)
  simp only [eraDistance_eq]
  omega

@[simp] theorem eraDistance_self (e : Era) : eraDistance e e = 0 := by simp [eraDistance]

/-- Of two distinct stamps not both unset exactly one is newer: by their origins within one era, by the shorter way round the
circle between two eras, and half way round by origin and then by era. -/
theorem newer_total {a b : Stamp} (hab : a ≠ b) (h0 : ¬(a.era = 0#16 ∧ b.era = 0#16)) : newer a b = !newer b a := by
  rw [Bool.eq_iff_iff, Bool.not_eq_true', ← Bool.not_eq_true, newer_iff, newer_iff]
  by_cases ha : a.era = 0#16
  · have hb : b.era ≠ 0#16 := fun hb => h0 ⟨ha, hb⟩
    simp [ha, hb]
  by_cases hb : b.era = 0#16
  · simp [ha, hb]
  by_cases he : a.era = b.era
  · have ho : a.origin ≠ b.origin := fun ho => hab (by cases a; cases b; simp_all)
    simp only [he, eraDistance_self, ne_eq, hb, not_false_eq_true, and_false, false_or, true_and]
    omega
  · have hd := eraDistance_add he
    have hn : a.era.toNat ≠ b.era.toNat := fun hn => he (BitVec.eq_of_toNat_eq hn)
    simp only [ha, hb, he, Ne.symm he, ne_eq, not_false_eq_true, and_false, false_and, false_or, or_false, true_and]
    omega

/-- Settles O16: the five cases are those of `newer_iff`, and what follows from them is `newer_total`. -/
theorem stampOrder : Obligations.StampOrder := by
  unfold Obligations.StampOrder
  refine ⟨fun a b => ?cases, fun a b h => ?unset, fun a => ?irrefl, fun a b hab h0 => newer_total hab h0⟩
  case cases => simpa only [eraDistance_eq] using newer_iff a b
  case unset => simp [newer, h]
  case irrefl => simp [newer]

/-! ### What a local change does to the image (R5, R6) -/

/-- A hand-over leaves the link's number. -/
@[simp] theorem handOver_number (f : Frame) (s : State) : (handOver f s).link.number = s.link.number := by
  unfold handOver linkHanded
  repeat' split
  all_goals rfl

/-- Changing divisions one after another reads and writes image, number and configuration alone. -/
theorem changeDivisions_image_congr (cs : List (Nat × StopSet)) {s t : State} (hi : s.image = t.image)
    (hn : s.link.number = t.link.number) (hc : s.config = t.config) :
    (cs.foldl changeDivision s).image = (cs.foldl changeDivision t).image := by
  induction cs generalizing s t with
  | nil => exact hi
  | cons x cs ih =>
    exact ih (by simp [changeDivision, State.division, hi, hn, hc]) (by simp [changeDivision, hn])
      (by simp [changeDivision, hc])

/-- The image after a local change, in whatever station state. -/
theorem localChange_image (s : State) {cs : List (Nat × StopSet)} (hn : (cs.map Prod.fst).Nodup) :
    (localChange cs s).image = s.image.mapIdx (changedDivision s.config s.link.number cs) := by
  have himage : (cs.foldl changeDivision s).image = s.image.mapIdx (changedDivision s.config s.link.number cs) := by
    rw [changeDivisions_image_congr cs (s := s) (t := { s with station := .awake }) rfl rfl rfl,
      changeDivisions_eq _ cs rfl hn]
    rfl
  unfold localChange
  split
  · simpa [List.isEmpty_iff.1 ‹_›] using himage
  · simpa using himage

/-- The number is the same after a local change. -/
@[simp] theorem localChange_number (cs : List (Nat × StopSet)) (s : State) :
    (localChange cs s).link.number = s.link.number := by
  have hfold : ∀ t : State, (cs.foldl changeDivision t).link.number = t.link.number := by
    induction cs with
    | nil => exact fun _ => rfl
    | cons x cs ih => exact fun t => (ih (changeDivision t x)).trans (by simp [changeDivision])
  unfold localChange
  split
  · rfl
  · simpa using hfold s

/-- One division's value after a local change of it alone. -/
theorem localChange_single {s : State} {d : Nat} {v : Division} (x : StopSet) (hv : s.image[d]? = some v) :
    (localChange [(d, x)] s).image[d]? =
      some { drawn := s.config.restrict d x, stamp := successor s.link.number v.stamp } := by
  rw [localChange_image s (by simp), List.getElem?_mapIdx, hv]
  simp [changedDivision, Configuration.restrict, successor, nextEra]

/-- The era after e, as a number (R5). -/
theorem nextEra_toNat (e : Era) : (nextEra e).toNat = if e.toNat = 65535 then 1 else e.toNat + 1 := by
  unfold nextEra
  have := e.isLt
  by_cases h : e.toNat = 65535
  · rw [if_pos (BitVec.eq_of_toNat_eq h), if_pos h]
    rfl
  · rw [if_neg fun he => h (by rw [he]; rfl), if_neg h, BitVec.toNat_add]
    simp
    omega

theorem nextEra_ne_zero (e : Era) : nextEra e ≠ 0#16 := by
  intro h
  have := nextEra_toNat e
  rw [h] at this
  split at this <;> simp at this

/-- Settles O17: each change takes the successor of the stamp held. -/
theorem localChangesTakeSuccessiveEras : Obligations.LocalChangesTakeSuccessiveEras := by
  unfold Obligations.LocalChangesTakeSuccessiveEras
  intro s d x y v hv after t u
  have ht := localChange_single x hv
  have hu := localChange_single y ht
  exact ⟨⟨_, ht, nextEra_toNat _, nextEra_ne_zero _, rfl⟩,
    _, hu, by simp only [successor, nextEra_toNat]; rfl, nextEra_ne_zero _, by simp [successor]⟩

/-! ### What an event does to the image -/

/-- The image of t is that of s after one local change, of no division where none is touched. -/
def LocallyChanged (s t : State) : Prop :=
  ∃ cs : List (Nat × StopSet), (cs.map Prod.fst).Nodup ∧ t.image = s.image.mapIdx (changedDivision s.config s.link.number cs)

theorem LocallyChanged.of_image {s t : State} (h : t.image = s.image) : LocallyChanged s t :=
  ⟨[], by simp, by rw [h]; exact List.ext_getElem? fun k => by simp⟩

/-- The changes asserted over a scope name each division once. -/
theorem nodup_recallChanges (s : State) (r : Record) : ((recallChanges s r).map Prod.fst).Nodup :=
  nodup_changes _ (List.nodup_range.filter _) _

/-- The changes of the power-return policy name each division once. -/
theorem nodup_policyChanges (s : State) : (s.policyChanges.map Prod.fst).Nodup := by
  have hu : s.unsetDivisions.Nodup := List.nodup_range.filter _
  unfold State.policyChanges
  split
  · exact List.nodup_nil
  · exact nodup_changes _ hu _
  · exact nodup_changes _ hu _
  · split
    · exact nodup_changes _ (hu.filter _) _
    · exact List.nodup_nil

/-- A local change made in u, whose image, configuration and number are those of s, and what follows it leave one local change. -/
theorem LocallyChanged.of_localChange {s u t : State} {cs : List (Nat × StopSet)} (hn : (cs.map Prod.fst).Nodup)
    (ht : t.image = (localChange cs u).image) (hi : u.image = s.image) (hc : u.config = s.config)
    (hu : u.link.number = s.link.number) : LocallyChanged s t :=
  ⟨cs, hn, by rw [ht, localChange_image u hn, hi, hc, hu]⟩

/-- An event that begins with an operation which leaves image, configuration and number. -/
theorem LocallyChanged.of_before {s u t : State} (h : LocallyChanged u t) (hi : u.image = s.image) (hc : u.config = s.config)
    (hu : u.link.number = s.link.number) : LocallyChanged s t := by
  obtain ⟨cs, hn, ht⟩ := h
  exact ⟨cs, hn, by rw [ht, hi, hc, hu]⟩

theorem senseChange_locallyChanged (d i : Nat) (v : Bool) (s : State) : LocallyChanged s (senseChange d i v s) := by
  simp only [senseChange]
  repeat' split
  · exact .of_localChange (by simp) rfl (by simp) (by simp) (by simp)
  all_goals exact .of_image (by simp)

theorem recallPiston_locallyChanged (p : Piston) (s : State) : LocallyChanged s (recallPiston p s) := by
  unfold recallPiston
  split
  · exact .of_localChange (nodup_recallChanges s _) rfl (by simp) (by simp) (by simp [setLive])
  · exact .of_image (by simp)

theorem cancelAll_locallyChanged (s : State) : LocallyChanged s (cancelAll s) :=
  .of_localChange (u := s) (nodup_changes _ List.nodup_range fun _ => 0#48) (by simp [cancelAll]; rfl) rfl rfl rfl

theorem pressGeneral_locallyChanged (g : Nat) (s : State) : LocallyChanged s (pressGeneral g s) := by
  unfold pressGeneral
  dsimp only
  repeat' split
  · exact .of_image (by simp)
  · exact (recallPiston_locallyChanged _ _).of_before (by simp) (by simp) (by simp)
  · exact .of_image rfl

theorem pressDivisional_locallyChanged (d n : Nat) (s : State) : LocallyChanged s (pressDivisional d n s) := by
  unfold pressDivisional
  dsimp only
  repeat' split
  · exact .of_image (by simp)
  · exact (recallPiston_locallyChanged _ _).of_before (by simp) (by simp) (by simp)
  · exact .of_image rfl

theorem pressGeneralCancel_locallyChanged (s : State) : LocallyChanged s (pressGeneralCancel s) := by
  unfold pressGeneralCancel
  split
  · exact (cancelAll_locallyChanged _).of_before (by simp) (by simp) (by simp)
  · exact .of_image rfl

theorem pressDivisionCancel_locallyChanged (d : Nat) (s : State) : LocallyChanged s (pressDivisionCancel d s) := by
  unfold pressDivisionCancel
  dsimp only
  repeat' split
  · exact .of_image (by simp)
  · exact .of_localChange (by simp) rfl (by simp) (by simp) (by simp [setCancelCount])
  · exact .of_image rfl

theorem takeStep_locallyChanged (x : SequenceStep) (s : State) : LocallyChanged s (takeStep x s) := by
  cases x with
  | general g => exact (recallPiston_locallyChanged _ _).of_before (by simp) (by simp) (by simp)
  | divisional d n => exact (recallPiston_locallyChanged _ _).of_before (by simp) (by simp) (by simp)
  | generalCancel => exact (cancelAll_locallyChanged _).of_before (by simp) (by simp) (by simp)

theorem performStep_locallyChanged (s : State) : LocallyChanged s (performStep s) := by
  unfold performStep
  repeat' split
  · exact takeStep_locallyChanged _ s
  all_goals exact .of_image rfl

theorem pressNext_locallyChanged (s : State) : LocallyChanged s (pressNext s) := by
  unfold pressNext stepNext
  repeat' split
  · exact .of_image (by simp)
  · exact (performStep_locallyChanged _).of_before (by simp) (by simp) (by simp [setCursor])
  all_goals exact .of_image (by simp)

theorem pressPrevious_locallyChanged (s : State) : LocallyChanged s (pressPrevious s) := by
  unfold pressPrevious stepPrevious
  repeat' split
  · exact .of_image (by simp)
  · exact (performStep_locallyChanged _).of_before (by simp) (by simp) (by simp [setCursor])
  all_goals exact .of_image (by simp)

/-- A press makes at most one local change. -/
theorem handPress_locallyChanged (f : LineFunction) (s : State) : LocallyChanged s (handPress f s) := by
  cases f with
  | stopSense d i => exact senseChange_locallyChanged d i true s
  | generalPiston g => exact pressGeneral_locallyChanged g s
  | divisionalPiston d n => exact pressDivisional_locallyChanged d n s
  | generalCancel => exact pressGeneralCancel_locallyChanged s
  | divisionCancel d => exact pressDivisionCancel_locallyChanged d s
  | sequencerNext => exact pressNext_locallyChanged s
  | sequencerPrevious => exact pressPrevious_locallyChanged s
  | _ => exact .of_image (by simp [handPress])

/-- A release makes at most one local change. -/
theorem handRelease_locallyChanged (f : LineFunction) (s : State) : LocallyChanged s (handRelease f s) := by
  cases f with
  | stopSense d i => exact senseChange_locallyChanged d i false s
  | _ => exact .of_image (by simp [handRelease])

/-- A change that is handed on makes at most one local change. -/
theorem handChange_locallyChanged (f : LineFunction) (v : Bool) (s : State) : LocallyChanged s (handChange f v s) := by
  unfold handChange
  repeat' split
  · exact handPress_locallyChanged f s
  · exact handRelease_locallyChanged f s
  · exact .of_image rfl

/-- A report leaves the link's number. -/
@[simp] theorem latch_number (k : FaultKind) (s : State) : (latch k s).link.number = s.link.number := by
  unfold latch
  dsimp only
  split
  · simp
  · rfl

/-- A reading block leaves the link's number. -/
@[simp] theorem noteReads_number (slots : List Nat) (s : State) : (noteReads slots s).link.number = s.link.number := by
  unfold noteReads latchIf
  split
  · exact latch_number _ s
  · rfl

theorem applyPolicy_locallyChanged (s : State) : LocallyChanged s (applyPolicy s) :=
  .of_localChange (nodup_policyChanges s) rfl (by simp) (by simp) (by simp)

/-! ### What every command leaves of configuration and image -/

/-- Stamp b is one that k local changes, one after another, can have made of stamp a: each advances the era by one, or by two past
era 0 (R5). -/
def EraWithin (k : Nat) (a b : Stamp) : Prop :=
  b.era ≠ 0#16 ∧ (a.era = 0#16 ∨ 1 ≤ eraDistance b.era a.era ∧ eraDistance b.era a.era ≤ 2 * k)

theorem eraDistance_nextEra {e : Era} (h : e ≠ 0#16) :
    1 ≤ eraDistance (nextEra e) e ∧ eraDistance (nextEra e) e ≤ 2 := by
  have h0 : e.toNat ≠ 0 := fun hn => h (BitVec.eq_of_toNat_eq hn)
  have := e.isLt
  rw [eraDistance_eq, nextEra_toNat]
  split <;> omega

theorem eraDistance_add_right (e f g : Era) : eraDistance e g = (eraDistance e f + eraDistance f g) % 65536 := by
  have he := e.isLt
  have hf := f.isLt
  have hg := g.isLt
  simp only [eraDistance_eq]
  omega

theorem eraWithin_successor (own : Nat) (a : Stamp) : EraWithin 1 a (successor own a) := by
  refine ⟨nextEra_ne_zero _, ?_⟩
  by_cases h : a.era = 0#16
  · exact .inl h
  · exact .inr (eraDistance_nextEra h)

theorem EraWithin.trans {j k : Nat} {a b c : Stamp} (h : EraWithin j a b) (h' : EraWithin k b c) (hk : 2 * (j + k) < 65536) :
    EraWithin (j + k) a c := by
  obtain ⟨hb, h | ⟨h1, h2⟩⟩ := h
  · exact ⟨h'.1, .inl h⟩
  · obtain ⟨hc, h' | ⟨h3, h4⟩⟩ := h'
    · exact absurd h' hb
    · refine ⟨hc, .inr ?_⟩
      rw [eraDistance_add_right c.era b.era a.era]
      omega

theorem EraWithin.mono {j k : Nat} {a b : Stamp} (h : EraWithin j a b) (hjk : j ≤ k) : EraWithin k a b :=
  ⟨h.1, h.2.imp_right fun ⟨h1, h2⟩ => ⟨h1, by omega⟩⟩

/-- So few local changes leave a newer stamp (R3, R5). -/
theorem EraWithin.newer {k : Nat} {a b : Stamp} (h : EraWithin k a b) (hk : k ≤ 16383) : newer b a = true := by
  obtain ⟨hb, h⟩ := h
  rw [newer_iff]
  by_cases ha : a.era = 0#16
  · exact .inl ⟨hb, ha⟩
  · obtain ⟨h1, h2⟩ := h.resolve_left ha
    exact .inr ⟨hb, ha, .inl ⟨h1, by omega⟩⟩

/-- The moves of a station that keeps its configuration: among the states of play, to Restarting, or out of Start into a state
that is no state of play (R165). -/
def StationMoves (a b : Station) : Prop :=
  b = a ∨ (a.inPlay = true ∧ b.inPlay = true) ∨ b = .restarting ∨ (a = .start ∧ b.inPlay = false)

theorem StationMoves.trans {a b c : Station} (h : StationMoves a b) (h' : StationMoves b c) : StationMoves a c := by
  rcases h' with rfl | ⟨hb, hc⟩ | rfl | ⟨rfl, hc⟩
  · exact h
  · rcases h with rfl | ⟨ha, -⟩ | rfl | ⟨-, hn⟩
    · exact .inr (.inl ⟨hb, hc⟩)
    · exact .inr (.inl ⟨ha, hc⟩)
    · cases hb
    · simp [hn] at hb
  · exact .inr (.inr (.inl rfl))
  · rcases h with rfl | ⟨-, hn⟩ | hn | ⟨ha, -⟩
    · exact .inr (.inr (.inr ⟨rfl, hc⟩))
    · cases hn
    · cases hn
    · exact .inr (.inr (.inr ⟨ha, hc⟩))

/-- t stands in the play of s: the copy and its partition stay, the station moves as above, and each division keeps its value or
has a restricted set under a stamp that R allows after the one it held. -/
structure Continues (R : Stamp → Stamp → Prop) (s t : State) : Prop where
  cfg : t.cfg = s.cfg
  partition : t.memory.partition = s.memory.partition
  station : StationMoves s.station t.station
  length : t.image.length = s.image.length
  division : ∀ d v v', s.image[d]? = some v → t.image[d]? = some v' →
    v' = v ∨ (s.config.restrict d v'.drawn = v'.drawn ∧ R v.stamp v'.stamp)

section Continues

variable {R : Stamp → Stamp → Prop} {s t u : State}

/-- An event that leaves the image. -/
theorem Continues.of_image (himage : t.image = s.image) (hcfg : t.cfg = s.cfg) (hpart : t.memory.partition = s.memory.partition)
    (hstation : StationMoves s.station t.station) :
    Continues R s t where
  cfg := hcfg
  partition := hpart
  station := hstation
  length := by rw [himage]
  division := fun d v v' hv hv' => .inl (by rw [himage, hv] at hv'; exact (Option.some.inj hv').symm)

theorem Continues.refl (s : State) : Continues R s s := .of_image rfl rfl rfl (.inl rfl)

theorem Continues.mono {S : Stamp → Stamp → Prop} (h : Continues R s t) (hRS : ∀ a b, R a b → S a b) : Continues S s t :=
  { h with division := fun d v v' hv hv' => (h.division d v v' hv hv').imp_right fun ⟨h1, h2⟩ => ⟨h1, hRS _ _ h2⟩ }

theorem restrict_restrict (c : Configuration) (d : Nat) (x : StopSet) : c.restrict d (c.restrict d x) = c.restrict d x := by
  simp [Configuration.restrict, BitVec.and_assoc]

/-- A division after a local change keeps its value or has a restricted set under the successor stamp. -/
theorem changedDivision_cases (c : Configuration) (own : Nat) (cs : List (Nat × StopSet)) (d : Nat) (v : Division) :
    changedDivision c own cs d v = v
      ∨ ∃ x, changedDivision c own cs d v = { drawn := c.restrict d x, stamp := successor own v.stamp } := by
  unfold changedDivision
  split
  · exact .inr ⟨_, rfl⟩
  · exact .inl rfl

/-- An event of at most one local change. -/
theorem Continues.of_locallyChanged (himage : LocallyChanged s t) (hcfg : t.cfg = s.cfg)
    (hpart : t.memory.partition = s.memory.partition)
    (hstation : StationMoves s.station t.station) :
    Continues (EraWithin 1) s t := by
  obtain ⟨cs, -, himage⟩ := himage
  refine ⟨hcfg, hpart, hstation, by simp [himage], fun d v v' hv hv' => ?_⟩
  rw [himage, List.getElem?_mapIdx, hv] at hv'
  obtain rfl : changedDivision s.config s.link.number cs d v = v' := Option.some.inj hv'
  refine (changedDivision_cases s.config s.link.number cs d v).imp_right fun ⟨x, hx⟩ => ?_
  rw [hx]
  exact ⟨restrict_restrict _ _ _, eraWithin_successor _ _⟩

/-- An event that begins with an operation which leaves station state, configuration and image. -/
theorem Continues.of_before (h : Continues R t u) (hcfg : t.cfg = s.cfg) (hpart : t.memory.partition = s.memory.partition)
    (hstation : t.station = s.station) (himage : t.image = s.image) : Continues R s u where
  cfg := h.cfg.trans hcfg
  partition := h.partition.trans hpart
  station := hstation ▸ h.station
  length := by rw [h.length, himage]
  division := by
    have hc : t.config = s.config := by simp [State.config, hcfg]
    rw [← himage, ← hc]
    exact h.division

/-- One local change after k others. -/
theorem Continues.trans {j k : Nat} (h : Continues (EraWithin j) s t) (h' : Continues (EraWithin k) t u)
    (hk : 2 * (j + k) < 65536) : Continues (EraWithin (j + k)) s u where
  cfg := h'.cfg.trans h.cfg
  partition := h'.partition.trans h.partition
  station := h.station.trans h'.station
  length := h'.length.trans h.length
  division := fun d v w hv hw => by
    have hc : t.config = s.config := by simp [State.config, h.cfg]
    have hlt : d < t.image.length := h.length ▸ (List.getElem?_eq_some_iff.1 hv).1
    have h1 := h.division d v _ hv (List.getElem?_eq_getElem hlt)
    have h2 := h'.division d _ w (List.getElem?_eq_getElem hlt) hw
    rw [hc] at h2
    rcases h2 with rfl | ⟨hr, hs⟩
    · exact h1.imp_right fun ⟨hr, hs⟩ => ⟨hr, hs.mono (by omega)⟩
    · rcases h1 with h1 | ⟨-, h1⟩
      · exact .inr ⟨hr, (h1 ▸ hs).mono (by omega)⟩
      · exact .inr ⟨hr, h1.trans hs hk⟩

end Continues

/-- The key moves the station between Awake and Dormant alone (R129). -/
theorem judgeConsole_station (s : State) : StationMoves s.station (judgeConsole s).station := by
  have hd : (enterDormant s).station = .dormant := by simp [enterDormant]
  have ha : (enterAwake (takeReference s)).station = .awake := by simp [enterAwake]
  unfold judgeConsole
  split
  · rename_i h
    split
    · exact .inl rfl
    · exact .inr (.inl (by simp [h, hd, Station.inPlay]))
  · rename_i h
    split
    · exact .inr (.inl (by simp [h, ha, Station.inPlay]))
    · exact .inl rfl
  · exact .inl rfl

/-- A change that is handed on leaves the station in its state, or moves it between Awake and Dormant. -/
theorem handChange_station (f : LineFunction) (v : Bool) (s : State) :
    StationMoves s.station (handChange f v s).station := by
  unfold handChange
  repeat' split
  · cases f with
    | consoleKey => exact judgeConsole_station s
    | _ => exact .inl (by simp [handPress])
  · cases f with
    | consoleKey => exact judgeConsole_station s
    | _ => exact .inl (by simp [handRelease])
  · exact .inl rfl

theorem handChange_continues (f : LineFunction) (v : Bool) (s : State) : Continues (EraWithin 1) s (handChange f v s) :=
  .of_locallyChanged (handChange_locallyChanged f v s) (by simp) (by simp) (handChange_station f v s)

/-- The later of two stamps is the newer. -/
def Advances (a b : Stamp) : Prop := newer b a = true

theorem Continues.advances {k : Nat} {s t : State} (h : Continues (EraWithin k) s t) (hk : k ≤ 16383) :
    Continues Advances s t :=
  h.mono fun _ _ he => he.newer hk

theorem lineEvent_continues (carries : LineFunction → Bool) (n : Nat) (v : Bool) (s : State) :
    Continues Advances s (lineEvent carries n v s) := by
  unfold lineEvent
  split
  · have hq : Continues (EraWithin 0) s (qualify n v s) := .of_image (by simp) (by simp) (by simp) (.inl (by simp))
    exact (hq.trans (handChange_continues _ v _) (by omega)).advances (by omega)
  · exact .refl s

/-- The changes a group's sample hands on make at most one local change each (R125). -/
theorem handLines_continues (ns : List Nat) (s : State) (hn : ns.length ≤ 8) :
    Continues (EraWithin ns.length) s (ns.foldl handLine s) := by
  induction ns generalizing s with
  | nil => exact .refl s
  | cons n ns ih =>
    simp only [List.length_cons] at hn ⊢
    rw [Nat.add_comm]
    exact (handChange_continues (s.functionOfLine n) (s.qualified n) s).trans (ih (handLine s n) (by omega)) (by omega)

theorem handPair_continues (s : State) : Continues (EraWithin 0) s (handPair s) :=
  .of_image (by simp) (by simp) (by simp) (.inl (by simp))

theorem groupSample_continues (m : Nat) (contacts : Byte) (s t : State) (h : exec (.groupSample m contacts) s = .next t) :
    Continues Advances s t := by
  obtain rfl := Host.Outcome.next.inj (h : Host.Outcome.next _ = _)
  split
  · have hlen : (s.changedLines m contacts).length ≤ 8 :=
      (List.length_filter_le _ _).trans (by simp [groupLines])
    have hsample : Continues (EraWithin 0) s (sampleLines m contacts s) :=
      .of_image (by simp) (by simp) (by simp) (.inl (by simp))
    have hlines := hsample.trans (handLines_continues _ (sampleLines m contacts s) hlen) (by omega)
    dsimp only
    split
    · exact (hlines.trans (handPair_continues _) (by omega)).advances (by omega)
    · exact hlines.advances (by omega)
  · exact .refl s

/-- A merged registration is restricted and newer than the one held (R10, R11). -/
theorem mergeRegistration_continues (d : Nat) (a : Stamp) (x : StopSet) (s : State) :
    Continues Advances s (mergeRegistration d a x s) := by
  unfold mergeRegistration
  split
  · rename_i h
    obtain ⟨-, hlt, hnewer⟩ := h
    refine ⟨by simp, by simp, .inl (by simp), by simp, fun k v v' hv hv' => ?_⟩
    simp only [imageChanged_frame, State.setImage_image] at hv'
    by_cases hk : d = k
    · subst hk
      have hd : s.division d = v := by simp [State.division, List.getD_eq_getElem?_getD, hv]
      rw [List.getElem?_set_self hlt] at hv'
      obtain rfl := Option.some.inj hv'
      exact .inr ⟨restrict_restrict _ _ _, hd ▸ hnewer⟩
    · rw [List.getElem?_set_ne hk, hv] at hv'
      exact .inl (Option.some.inj hv').symm
  · exact .refl s

theorem enterRestarting_station (cause : StartCause) (s : State) :
    StationMoves s.station (enterRestarting cause s).station := by
  unfold enterRestarting
  split
  · exact .inl rfl
  · exact .inr (.inr (.inl (by simp)))

theorem enterRestarting_continues (cause : StartCause) (s : State) : Continues Advances s (enterRestarting cause s) :=
  .of_image (by simp) (by simp) (by simp) (enterRestarting_station cause s)

theorem ifTarget_continues {target : Nat} {f : State → State} {s : State} (h : Continues Advances s (f s)) :
    Continues Advances s (ifTarget target f s) := by
  unfold ifTarget
  split
  · exact h
  · exact .refl s

theorem dispatch_continues (origin : Nat) (f : Frame) (s : State) : Continues Advances s (dispatch origin f s) := by
  cases f with
  | registrationChange d a x => exact mergeRegistration_continues d a x s
  | registrationRefresh d a x => exact mergeRegistration_continues d a x s
  | restart target => exact ifTarget_continues (enterRestarting_continues _ s)
  | configurationRead => exact ifTarget_continues (.of_image (by simp) (by simp) (by simp) (.inl (by simp)))
  | configurationWrite => exact ifTarget_continues (.of_image (by simp) (by simp) (by simp) (.inl (by simp)))
  | slotWrite => exact ifTarget_continues (.of_image (by simp) (by simp) (by simp) (.inl (by simp)))
  | memoryClear => exact ifTarget_continues (.of_image (by simp) (by simp) (by simp) (.inl (by simp)))
  | _ => exact .of_image (by simp [dispatch]) (by simp [dispatch]) (by simp [dispatch]) (.inl (by simp [dispatch]))

theorem receive_continues (origin : Nat) (f : Frame) (s : State) : Continues Advances s (receive origin f s) := by
  unfold receive
  dsimp only
  repeat' split
  · exact .of_image (by simp [frameEnded]) (by simp [frameEnded]) (by simp [frameEnded]) (.inl (by simp [frameEnded]))
  · exact (dispatch_continues origin f (frameEnded s)).of_before rfl rfl rfl rfl
  · exact .of_image rfl rfl rfl (.inl rfl)
  · exact .refl s

theorem joinEnd_continues (s t : State) (h : exec .joinEnd s = .next t) : Continues Advances s t := by
  obtain rfl := Host.Outcome.next.inj (h : Host.Outcome.next _ = _)
  split
  · rename_i hj
    set u := s.setStart { s.start with joinMs := Config.joinMs } with hu
    have hpolicy : Continues (EraWithin 1) s (applyPolicy u) :=
      .of_locallyChanged ((applyPolicy_locallyChanged u).of_before rfl rfl rfl) (by simp [hu]) (by simp [hu])
        (.inl (by simp [hu]))
    have hin : (applyPolicy u).station.inPlay = true := by simp [hu, hj, Station.inPlay]
    dsimp only
    split
    · have hawake : Continues (EraWithin 0) (applyPolicy u) (enterAwake (applyPolicy u)) :=
        .of_image (by simp) (by simp) (by simp) (.inr (.inl ⟨hin, by simp [enterAwake, Station.inPlay]⟩))
      exact (hpolicy.trans hawake (by omega)).advances (by omega)
    · have hdormant : Continues (EraWithin 0) (applyPolicy u) (enterDormant (applyPolicy u)) :=
        .of_image (by simp) (by simp) (by simp) (.inr (.inl ⟨hin, by simp [enterDormant, Station.inPlay]⟩))
      exact (hpolicy.trans hdormant (by omega)).advances (by omega)
  · exact .refl s

/-- t is a station without configuration and image, in Start or without power. -/
def Emptied (t : State) : Prop :=
  t.cfg = none ∧ t.memory.partition = none ∧ t.image = [] ∧ t.station.inPlay = false

/-- s, in Start, was left with an accepted configuration. -/
def Configures (s t : State) : Prop :=
  s.station = .start ∧ ∃ c, figuresOk c = true ∧ t.cfg = some c ∧ t.memory.partition = some (partitionOf c.layout)
    ∧ t.image = freshImage c ∧ t.station.inPlay = true

/-- The configuration check accepts good figures alone (R167). -/
theorem figuresOk_of_checkConfiguration {read : Nat → Option Content} {c : Configuration}
    (h : checkConfiguration read = some c) : figuresOk c = true := by
  unfold checkConfiguration at h
  split at h
  · rename_i hok
    obtain rfl := Option.some.inj h
    simp only [configurationOk, Bool.and_eq_true] at hok
    simp only [figuresOk, Bool.and_eq_true]
    tauto
  · cases h

/-- Where Start is left (R166). -/
theorem leaveStart_cases (strap : Bool) (contacts : BitVec 384) (s : State) (h : s.station = .start) :
    Continues Advances s (leaveStart strap contacts s) ∨ Configures s (leaveStart strap contacts s) := by
  have hunplayed : ∀ (st : Station) (u : State), st.inPlay = false → u.cfg = s.cfg →
      u.memory.partition = s.memory.partition → u.image = s.image → Continues Advances s (enterUnplayed st u) := fun st u hst hc hp hi =>
    .of_image (by simp [hi]) (by simp [hc]) (by simp [hp]) (.inr (.inr (.inr ⟨h, by simp [enterUnplayed, hst]⟩)))
  unfold leaveStart
  dsimp only
  repeat' split
  · exact .inl (hunplayed _ _ rfl (by simp) (by simp) (by simp))
  · rename_i c hc
    exact .inr ⟨h, c, figuresOk_of_checkConfiguration hc, by simp [enterJoining, acceptConfiguration, Station.inPlay]⟩
  · exact .inl (hunplayed _ _ rfl (by simp) (by simp) (by simp))

theorem startState_emptied (cause : StartCause) (s : State) : Emptied (startState cause s) := ⟨rfl, rfl, rfl, rfl⟩

/-- What a command can do to configuration and image: the play goes on, the station loses both, or an accepted configuration is
brought into force. -/
def ImageStep (s t : State) : Prop := Continues Advances s t ∨ Emptied t ∨ Configures s t

theorem ImageStep.refl (s : State) : ImageStep s s := .inl (.refl s)

/-- A command that touches neither station state nor configuration nor image. -/
theorem ImageStep.of_same {s t : State} (h : t.image = s.image ∧ t.cfg = s.cfg ∧ t.memory.partition = s.memory.partition
    ∧ t.station = s.station) : ImageStep s t :=
  .inl (.of_image h.1 h.2.1 h.2.2.1 (.inl h.2.2.2))

/-- Every command is one of the three cases. -/
theorem exec_imageStep {c : Instr} {s t : State} (h : exec c s = .next t) : ImageStep s t := by
  have next : ∀ {u : State}, exec c s = .next u → ImageStep s u → ImageStep s t := fun hu hP =>
    Host.Outcome.next.inj (hu.symm.trans h) ▸ hP
  cases c with
  | powerOn mv =>
    refine next rfl ?_
    split
    · exact .inr (.inl (startState_emptied _ _))
    · exact .refl s
  | lossOfPower torn =>
    refine next rfl ?_
    split
    · exact .refl s
    · exact .inr (.inl ⟨rfl, rfl, rfl, rfl⟩)
  | configurationCheck contacts =>
    refine next rfl ?_
    split
    · split
      · exact (leaveStart_cases _ contacts s ‹_›).imp_right .inr
      · exact .refl s
    · exact .refl s
  | startAfterRestarting =>
    refine next rfl ?_
    split
    · exact .inr (.inl (startState_emptied _ _))
    · exact .refl s
  | restartLinePress =>
    refine next rfl ?_
    split
    · exact .refl s
    · exact .inl ((enterRestarting_continues _ _).of_before rfl rfl rfl rfl)
  | fixedLineSample restart strap =>
    refine next rfl ?_
    dsimp only
    repeat' split
    · exact .refl s
    · exact .inl ((enterRestarting_continues _ _).of_before rfl rfl rfl rfl)
    · exact .of_same (by simp)
  | stopSenseChange | generalPiston | divisionalPiston | setPress | setRelease | generalCancel | divisionCancelPress
  | divisionCancelRelease | levelUp | levelDown | protect | sequencerNext | sequencerPrevious | tutti | crescendoProgram
  | crescendoSet | lineRelease | consoleKey | faultAcknowledge =>
    refine next rfl ?_
    exact .inl (lineEvent_continues _ _ _ s)
  | indexEdge =>
    refine next rfl ?_
    split
    · exact .inl (lineEvent_continues _ _ _ s)
    · exact .refl s
  | encoderHandover a b =>
    refine next rfl ?_
    split
    · exact .of_same (by simp)
    · exact .refl s
  | groupSample m contacts => exact .inl (groupSample_continues m contacts s t h)
  | low1Entry | low1Release | low2Entry | low2Release => exact next rfl (.of_same (by simp))
  | pulseEnd | settleEnd | writeReadback | retentionRefreshWrite | peerSilent | peerAbsent =>
    simp only [exec, execPulseEnd, execSettleEnd, execWriteReadback, execRetentionRefreshWrite, execPeerSilent, execPeerAbsent]
      at h
    repeat' split at h
    all_goals cases h
    all_goals exact .of_same (by simp)
  | idleReady =>
    refine next rfl ?_
    split
    · exact .of_same ⟨rfl, rfl, rfl, rfl⟩
    · exact .refl s
  | heartbeatPeriod =>
    refine next rfl ?_
    dsimp only
    repeat' split
    · exact .of_same (by simp)
    · exact .of_same (by simp)
    · exact .refl s
  | joinEnd => exact .inl (joinEnd_continues s t h)
  | registrationChange | registrationRefresh | crescendo | crescendoRepeatReceived | heartbeat | faultNoticeReceived
  | serviceReplyReceived | configurationRead | configurationWrite | slotWrite | memoryClear | restart =>
    refine next rfl ?_
    exact .inl (receive_continues _ _ s)
  | numberClash =>
    refine next rfl ?_
    split
    · exact .of_same (by simp [frameEnded])
    · exact .refl s
  | frameDiscarded framing bytes =>
    refine next rfl ?_
    split
    · exact .inl (receive_continues _ _ s)
    · unfold Machine.discard
      dsimp only
      repeat' split
      all_goals exact .of_same ⟨rfl, rfl, rfl, rfl⟩
  | lineIdle | lineBusy | sendComplete | sendAbort =>
    refine next rfl ?_
    split
    all_goals exact .of_same ⟨rfl, rfl, rfl, rfl⟩
  | sendBegin k =>
    refine next rfl ?_
    repeat' split
    all_goals exact .of_same ⟨rfl, rfl, rfl, rfl⟩
  | lampAnswerEnd l => exact next rfl (.of_same ⟨rfl, rfl, rfl, rfl⟩)

/-- A station in Start holds no configuration (R168). -/
theorem configured_start {s : State} (h : configured s) (hs : s.station = .start) : s.cfg = none := by
  unfold configured at h
  cases hc : s.cfg with
  | none => rfl
  | some c =>
    simp only [hc, hs] at h
    rcases h.1 with h | h <;> cases h

/-- A station without configuration has no division. -/
theorem image_nil_of_cfg_none {s : State} (h : imageOk s) (hc : s.cfg = none) : s.image = [] := by
  have := h.1
  simp only [State.divisionCount, State.config, hc] at this
  exact List.length_eq_zero_iff.1 this

theorem ImageStep.configured {s t : State} (h : ImageStep s t) (hs : configured s) : configured t := by
  rcases h with h | ⟨hcfg, hpart, -, hstation⟩ | ⟨-, c, hfig, hcfg, hpart, -, hstation⟩
  · unfold Safety.configured at hs ⊢
    rw [h.cfg, h.partition]
    have hm := h.station
    cases hc : s.cfg with
    | none =>
      rw [hc] at hs
      refine ⟨?_, hs.2⟩
      rcases hm with hm | ⟨hm, -⟩ | hm | ⟨-, hm⟩
      · rw [hm]; exact hs.1
      · simp [hs.1] at hm
      · rw [hm]; rfl
      · exact hm
    | some c =>
      rw [hc] at hs
      obtain ⟨hstation, hfig, hpart⟩ := hs
      refine ⟨?_, hfig, hpart⟩
      rcases hm with hm | ⟨-, hm⟩ | hm | ⟨hm, -⟩
      · rw [hm]; exact hstation
      · exact .inl hm
      · exact .inr hm
      · rw [hm] at hstation
        rcases hstation with h | h <;> cases h
  · simp [Safety.configured, hcfg, hpart, hstation]
  · simp [Safety.configured, hcfg, hpart, hstation, hfig]

theorem ImageStep.imageOk {s t : State} (h : ImageStep s t) (hs : imageOk s) : imageOk t := by
  rcases h with h | ⟨hcfg, -, himage, -⟩ | ⟨-, c, -, hcfg, -, himage, -⟩
  · have hc : t.config = s.config := by simp [State.config, h.cfg]
    refine ⟨by rw [h.length, hs.1, State.divisionCount, State.divisionCount, hc], fun d v' hv' => ?_⟩
    have hlt : d < s.image.length := h.length ▸ (List.getElem?_eq_some_iff.1 hv').1
    have hv := List.getElem?_eq_getElem hlt
    rw [hc]
    rcases h.division d _ v' hv hv' with rfl | ⟨hr, -⟩
    · exact hs.2 d _ hv
    · exact hr
  · simp [Safety.imageOk, himage, State.divisionCount, State.config, hcfg, noConfiguration]
  · refine ⟨by simp [himage, freshImage, State.divisionCount, State.config, hcfg], fun d v hv => ?_⟩
    rw [himage, freshImage] at hv
    obtain rfl := List.eq_of_mem_replicate (List.mem_of_getElem? hv)
    simp [Configuration.restrict]

/-- One millisecond touches neither configuration nor image. -/
theorem tick_imageStep (s : State) : ImageStep s (tick s) := by
  unfold tick
  split
  · exact .refl s
  · exact .of_same ⟨rfl, rfl, rfl, rfl⟩

/-- Settles O7: a step is a tick or a command, and each is one of the cases of `ImageStep`. -/
theorem stepKeepsConfigurationAndImage : Obligations.StepKeepsConfigurationAndImage := by
  unfold Obligations.StepKeepsConfigurationAndImage
  intro s t hc hi h
  unfold step at h
  split at h
  · exact ⟨(exec_imageStep h).configured hc, (exec_imageStep h).imageOk hi⟩
  · obtain rfl := Host.Outcome.next.inj h
    exact ⟨(tick_imageStep s).configured hc, (tick_imageStep s).imageOk hi⟩

/-- Settles O14: where the play goes on each stamp advances, and the other steps have no division before or after. -/
theorem stampsOnlyAdvance : Obligations.StampsOnlyAdvance := by
  unfold Obligations.StampsOnlyAdvance
  intro c s t hc hi h d v v' hv hv'
  rcases exec_imageStep h with h | ⟨-, -, himage, -⟩ | ⟨hstart, -⟩
  · exact (h.division d v v' hv hv').imp_right And.right
  · simp [himage] at hv'
  · simp [image_nil_of_cfg_none hi (configured_start hc hstart)] at hv

/-! ### Received registrations (R10 to R12) -/

/-- A frame's command is its receipt. -/
theorem exec_frameCommand (o : Nat) (f : Frame) (s : State) : exec (frameCommand o f) s = .next (receive o f s) := by
  cases f <;> rfl

/-- A registration frame that reaches the station is merged once the line view is as its end leaves it. -/
theorem exec_registration {s : State} {o d : Nat} {a : Stamp} {x : StopSet} {f : Frame}
    (hf : f = .registrationChange d a x ∨ f = .registrationRefresh d a x) (h : heard s o f) :
    exec (frameCommand o f) s = .next (mergeRegistration d a x (frameTaken s)) := by
  rw [exec_frameCommand, receive_heard s h]
  rcases hf with rfl | rfl <;> rfl

theorem division_of_getElem? {s : State} {d : Nat} {v : Division} (h : s.image[d]? = some v) : s.division d = v := by
  simp [State.division, List.getD_eq_getElem?_getD, h]

/-- Settles O54: the merge after the frame's end, adopted or ignored. -/
theorem registrationFramesAreMerged : Obligations.RegistrationFramesAreMerged := by
  unfold Obligations.RegistrationFramesAreMerged
  intro s o d a x f hf h inPlay set u
  rw [exec_registration hf h]
  refine ⟨fun v hp hv hn => ?adopted, fun v hv hn => ?older, fun hd => ?unknown, fun hp => ?notInPlay⟩
  case adopted => exact congrArg _ (mergeRegistration_merged u ((inPlay_iff s).2 hp) hv hn)
  case older => exact congrArg _ (mergeRegistration_ignored u (.inr (.inr (by rw [division_of_getElem? (s := u) hv]; exact hn))))
  case unknown => exact congrArg _ (mergeRegistration_ignored u (.inr (.inl hd)))
  case notInPlay =>
    exact congrArg _ (mergeRegistration_ignored u (.inl (Bool.eq_false_iff.2 fun hi => hp ((inPlay_iff s).1 hi))))

/-- The image after a registration was merged or ignored. -/
theorem mergeRegistration_image {s : State} {d : Nat} {v : Division} (a : Stamp) (x : StopSet) (hs : s.station.inPlay = true)
    (hv : s.image[d]? = some v) :
    (mergeRegistration d a x s).image =
      if newer a v.stamp = true then s.image.set d { drawn := s.config.restrict d x, stamp := a } else s.image := by
  by_cases hn : newer a v.stamp = true
  · rw [mergeRegistration_merged s hs hv hn, if_pos hn]
  · rw [mergeRegistration_ignored s (.inr (.inr (by rw [division_of_getElem? hv, Bool.eq_false_iff]; exact hn))), if_neg hn]

/-- The station between two registration frames: the first merged, the line idle. -/
def betweenFrames (d : Nat) (a : Stamp) (x : StopSet) (s : State) : State :=
  lineIdled (mergeRegistration d a x (frameTaken s))

/-- Two registration frames of one division that reach the station one after another, the line idle once between them, are
merged in their order (R134). -/
theorem runs_registrations {s : State} {o p d : Nat} {a b : Stamp} {x y : StopSet} {f g : Frame}
    (hf : f = .registrationChange d a x ∨ f = .registrationRefresh d a x)
    (hg : g = .registrationChange d b y ∨ g = .registrationRefresh d b y) (h : heard s o f) (h' : heard s p g)
    (hout : s.link.outgoing = none) :
    Runs [frameCommand o f, .lineIdle, frameCommand p g] s
      (mergeRegistration d b y (frameTaken (betweenFrames d a x s))) := by
  have hon : s.station.onLink = true := by
    obtain ⟨⟨hoff, hstart, -⟩, -⟩ := h
    cases hs : s.station <;> simp_all [Station.onLink]
  have hidle : exec .lineIdle (mergeRegistration d a x (frameTaken s)) = .next (betweenFrames d a x s) := by
    rw [exec, execLineIdle, if_pos (by simp [frameTaken, hon, hout])]
    rfl
  have hheard : heard (betweenFrames d a x s) p g := by
    obtain ⟨⟨hoff, hstart, -⟩, hacc, hnumber⟩ := h'
    have hstation : (betweenFrames d a x s).station = s.station := by simp [betweenFrames, lineIdled, frameTaken]
    exact ⟨⟨hstation ▸ hoff, hstation ▸ hstart, .inl rfl⟩, hacc,
      by simpa [betweenFrames, lineIdled, frameTaken] using hnumber⟩
  exact ⟨_, exec_registration hf h, _, hidle, _, exec_registration hg hheard, rfl⟩

/-- Settles O18: of the two merges the one of the older stamp is ignored where it comes second, and overwritten where it comes
first. -/
theorem receivedFramesConverge : Obligations.ReceivedFramesConverge := by
  unfold Obligations.ReceivedFramesConverge
  intro s o p d a b x y v f g hf hg h h' hout hplay hv ha hb hab
  have hin : (frameTaken s).station.inPlay = true := (inPlay_iff s).2 hplay
  have hlt : d < s.image.length := (List.getElem?_eq_some_iff.1 hv).1
  have hba : newer b a = false := by
    have hne : a ≠ b := fun he => by simp [he, newer] at hab
    have h0 : ¬(a.era = 0#16 ∧ b.era = 0#16) := fun he => by simp [newer, he.1] at hab
    rw [newer_total hne h0] at hab
    simpa using hab
  have first : ∀ (a : Stamp) (x : StopSet), newer a v.stamp = true →
      (betweenFrames d a x s).image = s.image.set d { drawn := s.config.restrict d x, stamp := a } := fun a x ha => by
    have := mergeRegistration_image (s := frameTaken s) a x hin hv
    rw [if_pos ha] at this
    exact this
  have second : ∀ (a b : Stamp) (x y : StopSet), newer a v.stamp = true →
      (mergeRegistration d b y (frameTaken (betweenFrames d a x s))).image =
        if newer b a = true then (betweenFrames d a x s).image.set d { drawn := s.config.restrict d y, stamp := b }
        else (betweenFrames d a x s).image := fun a b x y ha => by
    have hstation : (betweenFrames d a x s).station = s.station := by simp [betweenFrames, lineIdled, frameTaken]
    have hcfg : (betweenFrames d a x s).config = s.config := by
      rw [← show (mergeRegistration d a x (frameTaken s)).config = s.config by simp [frameTaken, State.config]]
      rfl
    have := mergeRegistration_image (s := frameTaken (betweenFrames d a x s)) (d := d) b y (hstation ▸ hin)
      (by rw [show (frameTaken (betweenFrames d a x s)).image = _ from first a x ha, List.getElem?_set_self hlt])
    rw [← hcfg]
    exact this
  refine ⟨_, _, runs_registrations hf hg h h' hout, runs_registrations hg hf h' h hout, ?_, ?_⟩
  · rw [second a b x y ha, second b a y x hb, if_pos hab, if_neg (by simp [hba]), first a x ha, first b y hb, List.set_set]
  · rw [second a b x y ha, if_neg (by simp [hba]), first a x ha, List.getElem?_set_self hlt]

/-! ### Pistons, cancels and Set (R24 to R32, R45) -/

/-- In Awake a press reaches the block that owns the line's function (R126, R128). -/
theorem lineEvent_pressed {s : State} {n : Nat} {f : LineFunction} {carries : LineFunction → Bool}
    (hf : s.functionOfLine n = f) (hc : carries f = true) (hs : s.station = .awake) :
    lineEvent carries n true s = handPress f (atLine s n true) := by
  rw [lineEvent_handed (by rw [hf, hc]) (.inl hs), if_pos rfl, hf]

/-- In Awake a release reaches the block that owns the line's function (R126, R128). -/
theorem lineEvent_released {s : State} {n : Nat} {f : LineFunction} {carries : LineFunction → Bool}
    (hf : s.functionOfLine n = f) (hc : carries f = true) (hs : s.station = .awake) :
    lineEvent carries n false s = handRelease f (atLine s n false) := by
  rw [lineEvent_handed (by rw [hf, hc]) (.inl hs), if_neg (by simp), hf]

/-- Settles O32: the counts are set after the line and the idle timer; a Division cancel without Set is a local change of its
division. -/
theorem heldControlsAreCounted : Obligations.HeldControlsAreCounted := by
  unfold Obligations.HeldControlsAreCounted
  refine ⟨fun s n hs hf => ⟨?setPress, ?setRelease⟩, ?_⟩
  case setPress =>
    rw [exec, execSetPress, lineEvent_pressed hf rfl hs, handPress, pressSet, if_pos (by simpa using hs)]
    rfl
  case setRelease =>
    rw [exec, execSetRelease, lineEvent_released hf rfl hs, handRelease, releaseSet, if_pos (by simpa using hs)]
    rfl
  intro s n d hs hf hi count u
  have hpress : exec (.divisionCancelPress n) s =
      .next (if (atLine s n true).setIsHeld then u else localChange [(d, 0#48)] u) := by
    rw [exec, execDivisionCancelPress, lineEvent_pressed hf rfl hs, handPress, pressDivisionCancel, if_pos (by simpa using hs)]
    rfl
  refine ⟨fun hheld => ?held, fun hheld => ?notHeld, ?release⟩
  case held => rw [hpress, if_pos (by simpa using hheld)]
  case notHeld =>
    rw [hpress, if_neg (by simpa using hheld), localChange_changedBy u _ (by simp [u, hs, Station.takesHandOvers]) (by simp)]
  case release =>
    rw [exec, execDivisionCancelRelease, lineEvent_released hf rfl hs, handRelease, releaseDivisionCancel,
      if_pos (by simpa using hs)]
    rfl

/-- Settles O33: the press is the cancel of every division after the local event. -/
theorem generalCancelEmptiesEveryDivision : Obligations.GeneralCancelEmptiesEveryDivision := by
  unfold Obligations.GeneralCancelEmptiesEveryDivision
  intro s n hs hf hi
  refine ⟨_, rfl, ?_⟩
  rw [lineEvent_pressed hf rfl hs, handPress, pressGeneralCancel, if_pos (by simpa using hs)]
  exact cancelAll_cancelled (atEvent s n true) (by simp [hs, Station.inPlay])

/-- The image after a local change, as Safety.lean says it. -/
theorem changedBy_image (s : State) (cs : List (Nat × StopSet)) :
    (changedBy cs s).image = s.image.mapIdx (changedDivision s.config s.link.number cs) := by
  unfold changedBy
  split
  · rename_i h
    subst h
    exact List.ext_getElem? fun k => by simp
  · rfl

/-- A local change leaves the configuration. -/
theorem changedBy_config (s : State) (cs : List (Nat × StopSet)) : (changedBy cs s).config = s.config := by
  unfold changedBy
  split <;> rfl

/-- A change of a list of divisions gives each of them its set. -/
theorem changedDivision_of_mem (c : Configuration) (own : Nat) {ds : List Nat} (f : Nat → StopSet) {d : Nat} (hd : d ∈ ds)
    (v : Division) : (changedDivision c own (ds.map fun k => (k, f k)) d v).drawn = c.restrict d (f d) := by
  have hfind : (ds.map fun k => (k, f k)).find? (fun x => x.1 == d) = some (d, f d) := by
    cases h : (ds.map fun k => (k, f k)).find? (fun x => x.1 == d) with
    | none =>
      rw [List.find?_eq_none] at h
      exact absurd (h (d, f d) (List.mem_map_of_mem hd)) (by simp)
    | some x =>
      obtain ⟨k, -, rfl⟩ := List.mem_map.1 (List.mem_of_find?_eq_some h)
      have hk : k = d := by simpa using List.find?_some h
      rw [hk]
  simp only [changedDivision, hfind, Configuration.restrict]

/-- The scope a record's content holds, bit by bit (R174). -/
theorem getLsbD_recordOf_scope (c : Content) {d : Nat} (hd : d < 8) : (recordOf c).scope.getLsbD d = c.getLsbD d := by
  simp [recordOf, Content.byte, hd]

/-- The set a record's content holds for a division (R174). -/
theorem setAt_recordOf_sets (c : Content) {d : Nat} (hd : d < 8) :
    setAt (recordOf c).sets d = c.extractLsb' (8 + 48 * d) 48 := by
  rw [show (recordOf c).sets = unpackSets c 1 from rfl, setAt_unpackSets c 1 hd, show 8 * (1 + 6 * d) = 8 + 48 * d by omega]

/-- After a recall the image holds the record over its scope (R24, R42). -/
theorem litPiston_of_recalled {p : Piston} {u t : State} {c : Content} (hi : u.image.length = u.divisionCount)
    (hd : u.divisionCount ≤ 8) (hc : newest u.memory (Safety.slotOfPiston u p) = some c) (h : Recalled p u t) :
    t.litPiston = some p := by
  unfold Recalled at h
  simp only [hc] at h
  have hcfg : t.config = u.config := by rw [h]; exact changedBy_config u _
  have hdrawn : ∀ d, d < u.divisionCount → c.getLsbD d = true →
      t.drawn d = u.config.restrict d (c.extractLsb' (8 + 48 * d) 48) := by
    intro d hlt hscope
    have himage : t.image = u.image.mapIdx (changedDivision u.config u.link.number (assertedBy u c)) := by
      rw [h]; exact changedBy_image u _
    rw [drawn_getD, himage, List.getElem?_mapIdx, List.getElem?_eq_getElem (hi ▸ hlt)]
    exact changedDivision_of_mem u.config _ (fun d => c.extractLsb' (8 + 48 * d) 48)
      (List.mem_filter.2 ⟨List.mem_range.2 hlt, hscope⟩) _
  have hholds : t.snapshotHolds (recordIn c) = true := by
    rw [← recordOf_recordIn, State.snapshotHolds, List.all_eq_true]
    intro d hmem
    obtain ⟨hrange, hscope⟩ := List.mem_filter.1 hmem
    have hlt : d < u.divisionCount := by
      rw [hcfg] at hrange
      exact List.mem_range.1 hrange
    rw [getLsbD_recordOf_scope c (by omega)] at hscope
    rw [hdrawn d hlt hscope, hcfg, setAt_recordOf_sets c (by omega), beq_self_eq_true]
  have hlive : t.recallUnit.live = some (u.recallUnit.level, p) := by rw [h]
  have hsnap : t.recallUnit.snapshot = some (recordIn c) := by rw [h]
  simp only [State.litPiston, hlive, hsnap, hholds, if_true]

/-- Settles O30: the press is the recall after the local event, and the image a recall leaves holds the snapshot. -/
theorem pistonRecall : Obligations.PistonRecall := by
  unfold Obligations.PistonRecall
  intro s n p c hs hheld hconf hi hpress
  have hd : (atEvent s n true).divisionCount ≤ 8 := divisionCount_le s hconf
  have hexec : exec c s = .next (recallPiston p (atEvent s n true)) := by
    have hawake : (atLine s n true).station = .awake := by simpa using hs
    have hnot : ¬ (atLine s n true).setIsHeld = true := by simpa using hheld
    rcases hpress with ⟨g, rfl, hf, rfl⟩ | ⟨d, k, rfl, hf, rfl⟩
    · rw [exec, execGeneralPiston, lineEvent_pressed hf rfl hs, handPress, pressGeneral, if_pos hawake]
      simp only [hnot]
      rfl
    · rw [exec, execDivisionalPiston, lineEvent_pressed hf rfl hs, handPress, pressDivisional, if_pos hawake]
      simp only [hnot]
      rfl
  have hrecalled := recallPiston_recalled (atEvent s n true) p (by simp [hs, Station.takesHandOvers]) hd
  refine ⟨_, hexec, hrecalled, fun hsome => ?_⟩
  obtain ⟨content, hcontent⟩ := Option.ne_none_iff_exists'.1 hsome
  exact litPiston_of_recalled (u := atEvent s n true) hi.1 hd hcontent hrecalled

/-! ### The heartbeat period (R13, R14, R96, R146) -/

/-- A routine frame handed in a state that takes hand-overs (R138, R145). -/
theorem handOver_waiting {s : State} {f : Frame} (hf : isUrgent f = false) (hs : s.station.takesHandOvers = true) :
    handOver f s = { s with link := { s.link with routine := waitingWith s.link.routine f } } := by
  rw [handOver_routine s f hf, handedRoutine, if_pos hs]

/-- s once its heartbeat was handed and the heartbeat period has begun anew. -/
def heartbeatSent (s : State) (r : ReportedState) : State :=
  { s with
    start := heartbeatHanded s.start
    link := { s.link with routine := waitingWith s.link.routine (heartbeatOf s r) } }

/-- A heartbeat handed in a state that reports itself (R146). -/
theorem handHeartbeat_sent {s : State} {r : ReportedState} (hs : s.station.takesHandOvers = true)
    (hr : reportedState s.station = r) (hservice : s.station = .service ↔ r = .service) :
    handHeartbeat (s.setStart { s.start with heartbeatMs := 0 }) = heartbeatSent s r := by
  have hcontent : Frame.heartbeat (s.setStart { s.start with heartbeatMs := 0 }).heartbeatContent = heartbeatOf s r := by
    simp only [State.heartbeatContent, heartbeatOf, State.setStart_station, hr, hservice]
    rfl
  unfold handHeartbeat
  rw [hcontent, handOver_waiting rfl (by simpa using hs)]
  rfl

/-- The division at the refresh pointer handed, and the pointer moved on (R13). -/
theorem refreshNext_eq {s : State} (hs : s.station.takesHandOvers = true) : refreshNext s =
    { s with
      refreshPointer := if s.refreshPointer + 1 < s.divisionCount then s.refreshPointer + 1 else 0
      link := { s.link with routine := waitingWith s.link.routine (s.refreshFrame s.refreshPointer) } } := by
  unfold refreshNext
  rw [handOver_waiting rfl hs]
  rfl

/-- At each eighth period a crescendo repeat is handed (R96). -/
theorem countRepeat_eq {s : State} (hs : s.station.takesHandOvers = true) : countRepeat s =
    { s with
      crescendo := { s.crescendo with repeatCount := if s.crescendo.repeatCount + 1 < 8 then s.crescendo.repeatCount + 1 else 0 }
      link := { s.link with
        routine := if s.crescendo.repeatCount + 1 < 8 then s.link.routine
          else waitingWith s.link.routine (.crescendoRepeat s.crescendoContent) } } := by
  unfold countRepeat
  rw [show Config.repeatPeriods = 8 from rfl]
  split
  · rfl
  · exact handOver_waiting rfl hs

/-- Settles O50: heartbeat, refresh and repeat one after another. -/
theorem heartbeatPeriodHandsTheFrames : Obligations.HeartbeatPeriodHandsTheFrames := by
  unfold Obligations.HeartbeatPeriodHandsTheFrames
  refine ⟨fun s r hr => ?runs, fun s hs => ?stands⟩
  case stands => rw [exec, execHeartbeatPeriod, if_neg (by rcases hs with hs | hs | hs <;> simp [hs, Station.heartbeats])]
  case runs =>
    intro h refresh
    have hstates : s.station.heartbeats = true ∧ s.station.takesHandOvers = true ∧ reportedState s.station = r
        ∧ (s.station = .service ↔ r = .service)
        ∧ (s.station.inPlay = true ↔ ¬(s.station = .unconfigured ∨ s.station = .service)) := by
      simp only [List.mem_cons, Prod.mk.injEq, List.not_mem_nil, or_false] at hr
      rcases hr with ⟨hs, rfl⟩ | ⟨hs, rfl⟩ | ⟨hs, rfl⟩ | ⟨hs, rfl⟩ | ⟨hs, rfl⟩ <;>
        simp [hs, Station.heartbeats, Station.takesHandOvers, reportedState, Station.inPlay]
    obtain ⟨hbeats, htakes, hreported, hservice, hplay⟩ := hstates
    rw [exec, execHeartbeatPeriod, if_pos hbeats, handHeartbeat_sent htakes hreported hservice]
    by_cases hin : s.station.inPlay = true
    · rw [if_pos hin, if_neg (hplay.1 hin), refreshNext_eq (s := heartbeatSent s r) htakes]
      exact congrArg _ (countRepeat_eq htakes)
    · rw [if_neg hin, if_pos (not_not.1 fun hn => hin (hplay.2 hn))]
      rfl

/-! ### Heartbeats received (R148 to R151) -/

theorem peerKindOf_eq (k : Nat) : peerKindOf k =
    if k = 1 then .combination else if k = 2 then .chamber else if k = 3 then .serviceTool else .other := by
  unfold peerKindOf
  split <;> simp_all

/-- A heartbeat that reaches the station goes to the Peer Table once the line view is as its end leaves it. -/
theorem exec_heartbeat {s : State} {o : Nat} {h : HeartbeatContent} (hh : heard s o (.heartbeat h)) :
    exec (.heartbeat o h) s = .next (takeHeartbeat o h (frameTaken s)) := by
  rw [exec, execHeartbeat, receive_heard s hh]
  rfl

/-- The record rule 2 of R148 chooses is an Absent one of the table. -/
theorem oldestAbsent_mem {l : List (Option Peer)} {k j : Nat} {q : Peer} (h : oldestAbsent l k = some (j, q)) :
    some q ∈ l ∧ q.presence = .absent := by
  induction l generalizing k j q with
  | nil => cases h
  | cons x rest ih =>
    have hrest : ∀ {j q}, oldestAbsent rest (k + 1) = some (j, q) → some q ∈ x :: rest ∧ q.presence = .absent :=
      fun h => ⟨List.mem_cons_of_mem _ (ih h).1, (ih h).2⟩
    cases x with
    | none => exact hrest h
    | some p =>
      unfold oldestAbsent at h
      repeat' split at h
      · cases h; exact hrest ‹_›
      · cases h; exact ⟨List.mem_cons_self, ‹_›⟩
      · cases h; exact ⟨List.mem_cons_self, ‹_›⟩
      · exact hrest h

/-- Record n goes before record k of the table by rule 2 of R148: the greater age, the lower station number, the lower place. -/
def goesBefore (p : Peer) (n : Nat) (q : Peer) (k : Nat) : Prop :=
  q.age < p.age ∨ (q.age = p.age ∧ (p.station < q.station ∨ (p.station = q.station ∧ n ≤ k)))

/-- The record that goes before all other Absent ones is the one chosen. -/
theorem oldestAbsent_eq {l : List (Option Peer)} {n : Nat} {p : Peer} (k : Nat) (hn : l[n]? = some (some p))
    (hp : p.presence = .absent)
    (hbest : ∀ j q, l[j]? = some (some q) → q.presence = .absent → goesBefore p n q j) :
    oldestAbsent l k = some (k + n, p) := by
  induction l generalizing n k with
  | nil => cases hn
  | cons x rest ih =>
    cases n with
    | zero =>
      obtain rfl : x = some p := Option.some.inj hn
      rw [oldestAbsent, if_pos hp]
      split
      · rename_i j q hj
        obtain ⟨hmem, hq⟩ := oldestAbsent_mem hj
        obtain ⟨i, hi⟩ := List.mem_iff_getElem?.1 hmem
        have hbefore := hbest (i + 1) q hi hq
        rw [if_neg]
        · rfl
        · simp only [goesBefore] at hbefore
          simp only [takenBefore, Bool.or_eq_true, Bool.and_eq_true, decide_eq_true_eq, beq_iff_eq]
          omega
      · rfl
    | succ m =>
      have hrest := ih (k + 1) (n := m) hn fun j q hj hq => by
        have := hbest (j + 1) q hj hq
        simp only [goesBefore] at this ⊢
        omega
      rw [show k + 1 + m = k + (m + 1) by omega] at hrest
      cases x with
      | none => exact hrest
      | some q =>
        rw [oldestAbsent, hrest]
        split
        · have hbefore := hbest 0 q rfl ‹_›
          simp only [goesBefore] at hbefore
          dsimp only
          rw [if_pos]
          simp only [takenBefore, Bool.or_eq_true, Bool.and_eq_true, decide_eq_true_eq, beq_iff_eq]
          omega
        · rfl

/-- A sender without a record is none of the taken ones (R148). -/
theorem peerIndex_none {l : List (Option Peer)} {o : Nat} {k : PeerKind}
    (h : ∀ p ∈ l.reduceOption, ¬(p.station = o ∧ p.kind = k)) : peerIndex l o k = none := by
  rw [peerIndex, List.findIdx?_eq_none_iff]
  intro x hx
  cases x with
  | none => rfl
  | some p => simpa using h p (List.reduceOption_mem_iff.2 hx)

/-- The lowest-numbered free record is taken (R148 rule 1). -/
theorem placeFor_free {l : List (Option Peer)} {n : Nat} (hn : l[n]? = some none) (hlow : ∀ k, k < n → l[k]? ≠ some none) :
    placeFor l = some n := by
  have hlt : n < l.length := (List.getElem?_eq_some_iff.1 hn).1
  have hfind : l.findIdx? Option.isNone = some n := by
    rw [List.findIdx?_eq_some_iff_getElem]
    refine ⟨hlt, by simp [(List.getElem?_eq_some_iff.1 hn).2], fun j hj => ?_⟩
    have := hlow j hj
    rw [List.getElem?_eq_getElem (by omega)] at this
    simpa using this
  rw [placeFor, hfind]

/-- With none free the Absent record of rule 2 is taken (R148). -/
theorem placeFor_taken {l : List (Option Peer)} (h : ∀ q ∈ l, q ≠ none) : placeFor l = (oldestAbsent l 0).map Prod.fst := by
  have hfind : l.findIdx? Option.isNone = none := by
    rw [List.findIdx?_eq_none_iff]
    intro x hx
    simpa [Option.isSome_iff_ne_none] using h x hx
  rw [placeFor, hfind]

/-- A record that is taken for a new sender is answered (R15, R96, R97, R148, R150). -/
theorem unknownHeartbeat_taken {u : State} {o n : Nat} {h : HeartbeatContent} (hu : u.station.inPlay = true)
    (hn : placeFor u.peers = some n) :
    let t := unknownHeartbeat o h u
    t = { u with
      peers := u.peers.set n (some (newPeer o h))
      crescendo := { u.crescendo with effective := t.formedEffective }
      link := { u.link with routine := arrivalAnswered u } } := by
  dsimp only
  have ht : unknownHeartbeat o h u = { u with
      peers := u.peers.set n (some (newPeer o h))
      crescendo := { u.crescendo with
        effective := (reportArrival (u.setPeers (u.peers.set n (some (newPeer o h))))).formedEffective }
      link := { u.link with routine := arrivalAnswered u } } := by
    simp only [unknownHeartbeat, hn]
    rw [formEffective_eq _ (by simpa using hu), reportArrival_answered _ (by simpa using takesHandOvers_of_inPlay hu)]
    rfl
  rw [ht, reportArrival_answered _ (by simpa using takesHandOvers_of_inPlay hu)]
  rfl

/-- Settles O52: by the place the record is taken at. -/
theorem newSendersTakeARecord : Obligations.NewSendersTakeARecord := by
  unfold Obligations.NewSendersTakeARecord
  intro s o h hh hplay kind new u taken hnew
  have hu : u.station.inPlay = true := (inPlay_iff s).2 hplay
  have hkind : peerKindOf h.kind = kind := peerKindOf_eq h.kind
  have hexec : exec (.heartbeat o h) s = .next (unknownHeartbeat o h u) := by
    have hindex : peerIndex u.peers o (peerKindOf h.kind) = none := peerIndex_none (by rw [hkind]; exact hnew)
    rw [exec_heartbeat hh, takeHeartbeat, if_pos hu, hindex]
  have hnewPeer : newPeer o h = new := by rw [newPeer, hkind]; rfl
  have htaken : ∀ n, placeFor s.peers = some n → ∃ t, exec (.heartbeat o h) s = .next t ∧ taken n t := fun n hn => by
    have ht := unknownHeartbeat_taken (h := h) (o := o) hu hn
    rw [hnewPeer] at ht
    exact ⟨_, hexec, ht⟩
  refine ⟨fun n hn hlow => ?free, fun n p hall hn hp hbest => ?absent, fun hall => ?full⟩
  case free => exact htaken n (placeFor_free hn hlow)
  case absent =>
    refine htaken n ?_
    rw [placeFor_taken hall, oldestAbsent_eq 0 hn hp hbest, Nat.zero_add]
    rfl
  case full =>
    have hplace : placeFor s.peers = none := by
      rw [placeFor_taken fun q hq => by obtain ⟨p, rfl, -⟩ := hall q hq; simp]
      cases ho : oldestAbsent s.peers 0 with
      | none => rfl
      | some x =>
        obtain ⟨hmem, habsent⟩ := oldestAbsent_mem ho
        obtain ⟨q, hq, hpresent⟩ := hall _ hmem
        obtain rfl := Option.some.inj hq
        exact absurd habsent hpresent
    rw [hexec, unknownHeartbeat, show placeFor u.peers = none from hplace, latch_reported]

/-- A sender with a record is found at its place: no other record has its number and kind (R147, R148). -/
theorem peerIndex_eq {l : List (Option Peer)} {n : Nat} {p : Peer} (hn : l[n]? = some (some p))
    (hdup : (l.reduceOption.map fun p => (p.station, p.kind)).Nodup) : peerIndex l p.station p.kind = some n := by
  rw [peerIndex, List.findIdx?_eq_some_iff_getElem]
  obtain ⟨hlt, hget⟩ := List.getElem?_eq_some_iff.1 hn
  refine ⟨hlt, by simp [hget], fun j hj hmatch => ?_⟩
  rw [List.Nodup, List.pairwise_map, List.reduceOption, List.pairwise_filterMap, List.pairwise_iff_getElem] at hdup
  cases hq : l[j] with
  | none => simp [hq] at hmatch
  | some q =>
    simp only [hq, Option.any_some, Bool.and_eq_true, beq_iff_eq] at hmatch
    exact hdup j n (by omega) hlt hj q hq p hget (by rw [hmatch.1, hmatch.2])

/-- A heartbeat of an existing record in a state of play: the record judged, LINK_QUALITY reported at a new alert, an arrival or a
start answered, the effective additions formed anew (R97, R150, R151). -/
theorem matchedHeartbeat_eq {u : State} {n : Nat} {p : Peer} {h : HeartbeatContent} (hu : u.station.inPlay = true) :
    let q := p.judge h
    let w := { u with peers := u.peers.set n (some (q.record h)) }
    let v := if (q.alert && !p.alert) = true then reported .linkQuality w else w
    let t := matchedHeartbeat n p h u
    t = { v with
      link := if (marksStart p h || p.presence != .present) = true then { v.link with routine := arrivalAnswered v } else v.link
      crescendo := { v.crescendo with effective := t.formedEffective } } := by
  intro q w v
  have hv : latchIf (q.alert && !p.alert) .linkQuality w = v := latchIf_reported w _ _
  have hstation : v.station = u.station := by rw [← hv]; simp [w]
  have ht : matchedHeartbeat n p h u =
      formEffective (if (marksStart p h || p.presence != .present) = true then reportArrival v else v) := by rw [← hv]; rfl
  dsimp only
  rw [ht]
  split
  · rw [formEffective_eq _ (by simpa [hstation] using hu),
      reportArrival_answered _ (by rw [hstation]; exact takesHandOvers_of_inPlay hu)]
    rfl
  · rw [formEffective_eq _ (by simpa [hstation] using hu)]
    rfl

/-- A start empties the contribution and clears both runs (R151 step 1). -/
theorem judge_start {p : Peer} {h : HeartbeatContent} (hs : marksStart p h = true) :
    p.judge h = { p with gapRun := 0, cleanRun := 0, contribution := emptyContribution } := by rw [Peer.judge, if_pos hs]

/-- An Absent record is not judged for sequence (R151 step 2). -/
theorem judge_absent {p : Peer} {h : HeartbeatContent} (hs : marksStart p h = false) (ha : p.presence = .absent) :
    p.judge h = p := by
  rw [Peer.judge, if_neg (by simp [hs]), if_pos ha]

/-- A heartbeat in sequence (R151 step 2). -/
theorem judge_inSequence {p : Peer} {h : HeartbeatContent} (hs : marksStart p h = false) (ha : p.presence ≠ .absent)
    (hq : h.sequence = (p.sequence + 1) % 16) : p.judge h =
      if p.alert = true ∧ p.cleanRun + 1 < 8 then { p with gapRun := 0, cleanRun := p.cleanRun + 1 }
      else if p.alert = true then { p with gapRun := 0, cleanRun := 0, alert := false }
      else { p with gapRun := 0 } := by
  rw [Peer.judge, if_neg (by simp [hs]), if_neg ha,
    if_pos (show h.sequence = nextSequence p.sequence from hq), Peer.clean]
  cases p.alert <;> simp

/-- A gap, the third in a run setting the alert flag (R151 step 2). -/
theorem judge_gap {p : Peer} {h : HeartbeatContent} (hs : marksStart p h = false) (ha : p.presence ≠ .absent)
    (hq : h.sequence ≠ (p.sequence + 1) % 16) : p.judge h =
      { p with
        gapRun := min 3 (p.gapRun + 1)
        cleanRun := 0
        alert := if p.gapRun + 1 ≥ 3 then true else p.alert } := by
  have halert : (p.alert || min 3 (p.gapRun + 1) == 3) = if p.gapRun + 1 ≥ 3 then true else p.alert := by
    split
    · simp; omega
    · cases p.alert <;> simp; omega
  rw [Peer.judge, if_neg (by simp [hs]), if_neg ha,
    if_neg (show ¬ h.sequence = nextSequence p.sequence from hq)]
  simp only [Peer.gap, halert]

/-- Settles O53: the record the heartbeat judges is the sender's, and R151's steps on it are the cases of a start, of a record
Absent, of a heartbeat in sequence and of a gap. -/
theorem heartbeatsAreJudged : Obligations.HeartbeatsAreJudged := by
  unfold Obligations.HeartbeatsAreJudged
  intro s o n h p hh hpeers hplay hn hp hkind start gap clean gapRun cleared alert cleanRun q u v
  have hu : (frameTaken s).station.inPlay = true := (inPlay_iff s).2 hplay
  have hexec : exec (.heartbeat o h) s = .next (matchedHeartbeat n p h (frameTaken s)) := by
    have hindex : peerIndex (frameTaken s).peers o (peerKindOf h.kind) = some n := by
      rw [peerKindOf_eq, ← hkind, ← hp]
      exact peerIndex_eq hn hpeers.2.2.1
    have hget : (frameTaken s).peers.getD n none = some p := by
      rw [List.getD_eq_getElem?_getD]
      exact congrArg (Option.getD · none) hn
    rw [exec_heartbeat hh, takeHeartbeat, if_pos hu, hindex]
    simp only [hget]
  have hstart : marksStart p h = true ↔ start := by simp [marksStart, start]
  have hrecord : (p.judge h).record h = q := by
    by_cases hs : start
    · rw [judge_start (hstart.2 hs)]
      simp [Peer.record, q, gapRun, cleanRun, alert, cleared, gap, clean, hs, emptyContribution]
    have hmarks : marksStart p h = false := Bool.eq_false_iff.2 fun hm => hs (hstart.1 hm)
    by_cases habsent : p.presence = .absent
    · rw [judge_absent hmarks habsent]
      simp [Peer.record, q, gapRun, cleanRun, alert, cleared, gap, clean, hs, habsent]
    by_cases hseq : h.sequence = (p.sequence + 1) % 16
    · rw [judge_inSequence hmarks habsent hseq]
      have hrun : 8 ≤ p.cleanRun + 1 ↔ ¬ p.cleanRun + 1 < 8 := by omega
      by_cases hal : p.alert = true
      · by_cases hlt : p.cleanRun + 1 < 8 <;>
          simp [Peer.record, q, gapRun, cleanRun, alert, cleared, gap, clean, hs, habsent, hseq, hal, hrun, hlt]
      · simp [Peer.record, q, gapRun, cleanRun, alert, cleared, gap, clean, hs, habsent, hseq, hal]
    · rw [judge_gap hmarks habsent hseq]
      simp [Peer.record, q, gapRun, cleanRun, alert, cleared, gap, clean, hs, habsent, hseq]
  have halert : (p.judge h).alert = alert := congrArg Peer.alert hrecord
  have hw : ({ frameTaken s with peers := s.peers.set n (some ((p.judge h).record h)) } : State) = u := by rw [hrecord]
  have hv : (if ((p.judge h).alert && !p.alert) = true then reported .linkQuality u else u) = v := by
    simp only [halert, v, Bool.and_eq_true, Bool.not_eq_true']
  have hanswered : (marksStart p h || p.presence != .present) = true ↔ start ∨ p.presence ≠ .present := by
    simp [hstart]
  have hcrescendo : v.crescendo = s.crescendo := by
    simp only [v]
    split <;> rfl
  refine ⟨_, hexec, ?_⟩
  have ht := matchedHeartbeat_eq (n := n) (p := p) (h := h) hu
  dsimp only at ht
  rw [show (frameTaken s).peers = s.peers from rfl, hw, hv, hcrescendo] at ht
  simp only [hanswered] at ht
  exact ht

/-! ### Sets and additions (R1, R88, R94, R97) -/

@[simp] theorem setAt_setsOf (f : Nat → StopSet) {d : Nat} (hd : d < 8) : setAt (setsOf f) d = f d := by
  simp [setAt, setsOf, List.getD_eq_getElem?_getD, hd]

@[simp] theorem setAt_emptySets {d : Nat} (hd : d < 8) : setAt emptySets d = 0#48 := setAt_setsOf _ hd

theorem mem_unionSets (a b : Sets) {d : Nat} (hd : d < 8) (i : Nat) :
    (setAt (unionSets a b) d).getLsbD i = true ↔ (setAt a d).getLsbD i = true ∨ (setAt b d).getLsbD i = true := by
  simp [unionSets, hd]

/-- The members of a union over a list (R88, R97). -/
theorem mem_foldl_unionSets {α : Type} (f : α → Sets) {d : Nat} (hd : d < 8) (i : Nat) (l : List α) (a : Sets) :
    (setAt (l.foldl (fun acc x => unionSets acc (f x)) a) d).getLsbD i = true ↔
      (setAt a d).getLsbD i = true ∨ ∃ x ∈ l, (setAt (f x) d).getLsbD i = true := by
  induction l generalizing a with
  | nil => simp
  | cons x l ih => simp only [List.foldl_cons, ih, mem_unionSets _ _ hd, List.mem_cons, exists_eq_or_imp, or_assoc]

/-- The defined indices are those below the count (R1). -/
theorem mem_definedIndices {n : Nat} (hn : n ≤ 48) (i : Nat) : (definedIndices n).getLsbD i = true ↔ i < n := by
  rw [definedIndices, BitVec.getLsbD_ofNat, Nat.testBit_two_pow_sub_one]
  simp
  omega

/-- The members of restricted sets are the defined members of known divisions (R1). -/
theorem mem_restrictAll (c : Configuration) (l : Sets) {d : Nat} (hd : d < 8) (hc : c.controlsOf d ≤ 48) (i : Nat) :
    (setAt (c.restrictAll l) d).getLsbD i = true ↔
      (d < c.layout.divisions ∧ i < c.controlsOf d) ∧ (setAt l d).getLsbD i = true := by
  rw [Configuration.restrictAll, setAt_setsOf _ hd]
  split
  · rename_i hlt
    simp only [Configuration.restrict, BitVec.getLsbD_and, Bool.and_eq_true, mem_definedIndices hc, hlt, true_and]
    exact and_comm
  · simp_all

/-- The members a slot gives the additions (R88, R94). -/
theorem mem_setsOfSlot (s : State) (n : Nat) {d i : Nat} (hd : d < 8) (hi : i < 48) (hc : s.config.controlsOf d ≤ 48) :
    (setAt (s.setsOfSlot n) d).getLsbD i = true ↔
      (d < s.divisionCount ∧ i < s.config.controlsOf d) ∧ ∃ c, newest s.memory n = some c ∧ c.getLsbD (48 * d + i) = true := by
  unfold State.setsOfSlot
  split
  · rename_i c hn
    rw [mem_restrictAll _ _ hd hc, setAt_unpackSets c 0 hd]
    simp [hn, hi, State.divisionCount, show 8 * (6 * d) = 48 * d by omega]
  · rename_i hn
    simp [hn, hd]

theorem stageSlot_succ (s : State) (program k : Nat) :
    stageSlot s.bases s.config.layout program (k + 1) = s.bases.cresBase + program * s.config.layout.stages + k := rfl

/-- The slots read for the local additions (R88, R94). -/
theorem mem_additionSlots (s : State) (n : Nat) : n ∈ s.additionSlots ↔
    (∃ k, k < s.crescendo.stage ∧ n = s.bases.cresBase + s.crescendo.program * s.config.layout.stages + k)
      ∨ (s.crescendo.tutti = true ∧ n = 16383) := by
  unfold State.additionSlots State.stageSlots
  rw [List.mem_append, List.mem_map]
  refine or_congr ⟨?_, ?_⟩ ?_
  · rintro ⟨k, hk, rfl⟩
    exact ⟨k, List.mem_range.1 hk, rfl⟩
  · rintro ⟨k, hk, rfl⟩
    exact ⟨k, List.mem_range.2 hk, rfl⟩
  · split <;> simp_all [Config.tuttiSlot]

/-- Settles O42: each set is a union over slots or peers of restricted sets. -/
theorem additionsAreUnions : Obligations.AdditionsAreUnions := by
  unfold Obligations.AdditionsAreUnions
  intro s d i hd hi hc known names stageRecord
  have hcumulative : ∀ program n, (setAt (s.cumulative program n) d).getLsbD i = true ↔
      known ∧ ∃ k, k < n ∧ names (stageRecord program k) := by
    intro program n
    rw [State.cumulative, mem_foldl_unionSets _ hd, State.stageSlots]
    simp only [setAt_emptySets hd, BitVec.getLsbD_zero, Bool.false_eq_true, false_or, List.mem_map, List.mem_range,
      exists_exists_and_eq_and, mem_setsOfSlot s _ hd hi hc, stageSlot_succ]
    constructor
    · rintro ⟨k, hk, hknown, hn⟩
      exact ⟨hknown, k, hk, hn⟩
    · rintro ⟨hknown, k, hk, hn⟩
      exact ⟨k, hk, hknown, hn⟩
  refine ⟨hcumulative, mem_additionSlots s, ?formed, ?effective⟩
  case formed =>
    unfold State.formedAdditions
    dsimp only
    split
    · rename_i ht
      rw [mem_unionSets _ _ hd, hcumulative, mem_setsOfSlot s _ hd hi hc, ← and_or_left]
      simp only [ht, true_and]
      rfl
    · rename_i ht
      rw [hcumulative]
      simp [ht]
  case effective =>
    have hbase : (setAt (if s.station = .awake then s.crescendo.localAdditions else emptySets) d).getLsbD i = true ↔
        s.station = .awake ∧ (setAt s.crescendo.localAdditions d).getLsbD i = true := by
      split <;> simp_all
    rw [State.formedEffective, mem_foldl_unionSets _ hd, hbase]
    refine or_congr_right ?_
    simp only [mem_restrictAll _ _ hd hc, State.unionPeers, List.mem_filter, Peer.inUnion, Bool.and_eq_true, beq_iff_eq,
      bne_iff_ne, known, State.divisionCount, and_assoc]

/-! ### Motion records by control (R102 to R106) -/

theorem mem_sensedControls {c : Configuration} {d i : Nat} (h : (d, i) ∈ c.sensedControls) :
    d < c.layout.divisions ∧ i < c.controlsOf d := by
  simp only [Configuration.sensedControls, List.mem_flatMap, List.mem_map, List.mem_filter, List.mem_range, Prod.mk.injEq] at h
  obtain ⟨_, hd, _, ⟨hi, -⟩, rfl, rfl⟩ := h
  exact ⟨hd, hi⟩

theorem nodup_sensedControls (c : Configuration) : c.sensedControls.Nodup := by
  refine List.nodup_flatMap.2 ⟨fun d _ => ?_, List.nodup_range.imp fun {d e} hne => ?_⟩
  · exact (List.nodup_range.filter _).map fun a b h => (Prod.mk.inj h).2
  · rw [Function.onFun, List.disjoint_left]
    rintro ⟨x, y⟩ hx hy
    obtain ⟨_, -, hx⟩ := List.mem_map.1 hx
    obtain ⟨_, -, hy⟩ := List.mem_map.1 hy
    exact hne ((Prod.mk.inj hx).1.trans (Prod.mk.inj hy).1.symm)

/-- The motion law gives each control one record at most (R102). -/
theorem nodup_keys {s : State} (h : motionOk s) : (s.motion.records.map MotionRecord.key).Nodup :=
  h.1 ▸ nodup_sensedControls _

theorem find_mem {m : Motion} {d i : Nat} {r : MotionRecord} (h : m.find d i = some r) : r ∈ m.records ∧ r.key = (d, i) := by
  have hp := List.find?_some h
  simp only [Bool.and_eq_true, beq_iff_eq] at hp
  exact ⟨List.mem_of_find?_eq_some h, Prod.ext hp.1 hp.2⟩

/-- The record of a control is the only one with its key. -/
theorem eq_of_key {m : Motion} {d i : Nat} {r q : MotionRecord} (hkeys : (m.records.map MotionRecord.key).Nodup)
    (h : m.find d i = some r) (hq : q ∈ m.records) (hk : q.key = (d, i)) : q = r :=
  List.inj_on_of_nodup_map hkeys hq (find_mem h).1 (hk.trans (find_mem h).2.symm)

/-- A function that keeps a record's control carries the record found to the one found after it. -/
theorem find_map (l : List MotionRecord) {f : MotionRecord → MotionRecord} (hf : ∀ r, (f r).key = r.key) (d i : Nat) :
    (l.map f).find? (fun r => r.d == d && r.i == i) = (l.find? fun r => r.d == d && r.i == i).map f := by
  have hp : (fun r : MotionRecord => r.d == d && r.i == i) ∘ f = fun r => r.d == d && r.i == i := by
    funext r
    obtain ⟨hd, hi⟩ := Prod.mk.inj (hf r)
    simp [hd, hi]
  rw [List.find?_map, hp]

/-- A control in the queue after an update has a record that is Queued then. -/
theorem mem_update_queue {m : Motion} {f : MotionRecord → MotionRecord} {k : Nat × Nat} (h : k ∈ (m.update f).queue) :
    ∃ r ∈ m.records, r.key = k ∧ (f r).state = .queued := by
  simp only [Motion.update, List.mem_append, List.mem_filter, List.any_eq_true, List.mem_map, MotionRecord.isQueued,
    Bool.and_eq_true, beq_iff_eq] at h
  rcases h with ⟨-, r, hr, hk, hq⟩ | ⟨r, ⟨hr, -, hq⟩, hk⟩
  · exact ⟨r, hr, hk, hq⟩
  · exact ⟨r, hr, hk, hq⟩

/-- The start of pulses leaves the record of a control that does not wait (R107). -/
theorem judged_find (s : State) {m : Motion} {d i : Nat} (h : (d, i) ∉ m.queue) : (judged s m).find d i = m.find d i := by
  unfold Motion.find judged
  dsimp only
  rw [find_map]
  · cases hfind : m.records.find? (fun r => r.d == d && r.i == i) with
    | none => rfl
    | some r =>
      have hk : r.key = (d, i) := (find_mem (m := m) hfind).2
      rw [Option.map_some, if_neg fun hm => h (hk ▸ List.mem_of_mem_take hm)]
  · intro r
    split <;> rfl

/-- The record of a control that f does not leave Queued, after every record passed through f (R105 to R107). -/
theorem motionAfter_find {s : State} {f : MotionRecord → MotionRecord} {d i : Nat} {r : MotionRecord}
    (hkeys : (s.motion.records.map MotionRecord.key).Nodup) (hf : ∀ r, (f r).key = r.key) (h : s.motion.find d i = some r)
    (hq : (f r).state ≠ .queued) : (motionAfter s f).find d i = some (f r) := by
  have hnot : (d, i) ∉ (s.motion.update f).queue := fun hm => by
    obtain ⟨q, hmem, hk, hqueued⟩ := mem_update_queue hm
    exact hq (eq_of_key hkeys h hmem hk ▸ hqueued)
  refine (judged_find s hnot).trans ?_
  refine (find_map s.motion.records hf d i).trans ?_
  exact congrArg (Option.map f) h

/-- Passing records through f keeps their controls. -/
theorem motionAfter_keys (s : State) {f : MotionRecord → MotionRecord} (hf : ∀ r, (f r).key = r.key) :
    (motionAfter s f).records.map MotionRecord.key = s.motion.records.map MotionRecord.key := by
  refine (judged_records s (s.motion.update f) MotionRecord.key fun _ _ _ _ => rfl).trans ?_
  simp [Motion.update, hf]

/-! ### Stop-sense changes (R104, R112, R113) -/

/-- A sense change keeps the record's control. -/
theorem onRecord_key {d i : Nat} {f : MotionRecord → MotionRecord} (hf : ∀ r, (f r).key = r.key) (r : MotionRecord) :
    (onRecord d i f r).key = r.key := by
  unfold onRecord
  split
  · exact hf r
  · rfl

theorem setSensed_key (v : Bool) (r : MotionRecord) : (r.setSensed v).key = r.key := by
  unfold MotionRecord.setSensed MotionRecord.settleState
  repeat' split
  all_goals rfl

/-- What a change of the sensed value makes of a record: one that waits or is Stuck agrees with its target now (R112). -/
theorem setSensed_eq {r : MotionRecord} {v : Bool} (hr : recordOk r) (hv : r.sensed ≠ v) : r.setSensed v =
    match r.state with
    | .queued | .stuck => { r with sensed := v, state := .aligned, retry := 0 }
    | _ => { r with sensed := v } := by
  have hagree : r.sensed ≠ r.target → v = r.target := fun hn =>
    (Bool.eq_not.2 hv.symm).trans (Bool.eq_not.2 hn.symm).symm
  unfold recordOk at hr
  unfold MotionRecord.setSensed MotionRecord.settleState
  cases hs : r.state <;> simp only [hs] at hr ⊢
  · rw [if_pos (hagree hr.2.1)]
  · rw [if_pos (hagree hr.2.1)]

/-- After a sense change no record of the control waits. -/
theorem setSensed_not_queued {r : MotionRecord} {v : Bool} (hr : recordOk r) (hv : r.sensed ≠ v) :
    (r.setSensed v).state ≠ .queued := by
  rw [setSensed_eq hr hv]
  cases r.state <;> simp

/-- The records and the queue after a sense change of one control: its record changed, and the control out of the queue (R105,
R112). -/
theorem update_setSensed {s : State} {d i : Nat} {v : Bool} {r : MotionRecord} (h : motionOk s)
    (hfind : s.motion.find d i = some r) (hv : r.sensed ≠ v) :
    s.motion.update (onRecord d i (MotionRecord.setSensed v)) =
      { s.motion with
        records := s.motion.records.map fun q => if q.key = (d, i) then r.setSensed v else q
        queue := s.motion.queue.filter (· ≠ (d, i)) } := by
  have hr : recordOk r := (h.2.1 r (find_mem hfind).1).1
  have hself : ∀ q ∈ s.motion.records,
      onRecord d i (MotionRecord.setSensed v) q = if q.key = (d, i) then r.setSensed v else q := by
    intro q hq
    unfold onRecord
    by_cases hk : q.key = (d, i)
    · rw [if_pos (Prod.mk.inj hk), if_pos hk, eq_of_key (nodup_keys h) hfind hq hk]
    · rw [if_neg fun hc => hk (Prod.ext hc.1 hc.2), if_neg hk]
  have hqueued : ∀ q ∈ s.motion.records,
      (onRecord d i (MotionRecord.setSensed v) q).isQueued = (decide (q.key ≠ (d, i)) && q.isQueued) := by
    intro q hq
    rw [hself q hq]
    by_cases hk : q.key = (d, i)
    · simp [hk, MotionRecord.isQueued, setSensed_not_queued hr hv]
    · simp [hk]
  have hrecords : s.motion.records.map (onRecord d i (MotionRecord.setSensed v)) =
      s.motion.records.map fun q => if q.key = (d, i) then r.setSensed v else q := List.map_congr_left hself
  have hnew : s.motion.records.filter (fun q => !q.isQueued && (onRecord d i (MotionRecord.setSensed v) q).isQueued) = [] := by
    rw [List.filter_eq_nil_iff]
    intro q hq
    rw [hqueued q hq]
    cases q.isQueued <;> simp
  have hold : s.motion.queue.filter (fun k => s.motion.records.any fun q =>
        q.key == k && (onRecord d i (MotionRecord.setSensed v) q).isQueued) = s.motion.queue.filter (· ≠ (d, i)) := by
    refine List.filter_congr fun k hk => ?_
    obtain ⟨q, hq, hqk, hstate⟩ := (h.2.2.2.1 k).1 hk
    rw [Bool.eq_iff_iff, List.any_eq_true]
    constructor
    · rintro ⟨q', hq', hmatch⟩
      rw [hqueued q' hq'] at hmatch
      simp only [Bool.and_eq_true, beq_iff_eq] at hmatch
      rw [← hmatch.1]
      exact hmatch.2.1
    · intro hne
      refine ⟨q, hq, ?_⟩
      rw [hqueued q hq]
      simp only [hqk, beq_self_eq_true, MotionRecord.isQueued, hstate, Bool.and_true, Bool.true_and]
      exact hne
  rw [Motion.update, hrecords, hnew, hold]
  simp

/-- A sense change in Joining or Awake reaches the record, and one of an Aligned record the image too (R112, R113, R128). -/
theorem exec_stopSenseChange {s : State} {n d i : Nat} {v : Bool} {r : MotionRecord} (hf : s.functionOfLine n = .stopSense d i)
    (h : motionOk s) (hfind : s.motion.find d i = some r) (hv : r.sensed ≠ v) (hs : s.station = .awake ∨ s.station = .joining) :
    let t := { atLine s n v with
      motion := judged s { s.motion with
        records := s.motion.records.map fun q => if q.key = (d, i) then r.setSensed v else q
        queue := s.motion.queue.filter (· ≠ (d, i)) } }
    exec (.stopSenseChange n v) s = .next (if r.state = .aligned then handMotion d i v t else t) := by
  have hline : lineEvent LineFunction.isStopSense n v s = senseChange d i v (atLine s n v) := by
    rw [lineEvent_handed (by rw [hf]; rfl) hs, hf]
    cases v <;> rfl
  have hfind' : (atLine s n v).motion.find d i = some r := hfind
  rw [exec, execStopSenseChange, hline, senseChange, moveRecords_judged]
  simp only [hfind']
  rw [show (atLine s n v).motion = s.motion from rfl, update_setSensed h hfind hv]
  rfl

/-- A record whose target follows the drawn set of division d (R16, R106). -/
def followsDivision (d : Nat) (drawn : StopSet) (r : MotionRecord) : MotionRecord :=
  if r.d = d then retargeted (drawn.getLsbD r.i) r else r

theorem followsDivision_key (d : Nat) (drawn : StopSet) (r : MotionRecord) : (followsDivision d drawn r).key = r.key := by
  unfold followsDivision retargeted
  repeat' split
  all_goals rfl

/-- A local change of one division moves the records of that division (R16). -/
theorem changedBy_single_motion {s : State} {d : Nat} {w : Division} (x : StopSet) (hw : s.image[d]? = some w) :
    (changedBy [(d, x)] s).motion = motionAfter s (followsDivision d (s.config.restrict d x)) := by
  refine congrArg (motionAfter s) (funext fun r => ?_)
  unfold followsDivision
  by_cases h : r.d = d
  · subst h
    simp [hw, changedDivision, Configuration.restrict]
  · simp [h, Ne.symm h]

/-- The record of a control after a change of its division alone, whose new set holds the sensed value: Aligned at the new target
(R106, R113). -/
theorem changedBy_find {s : State} {d i : Nat} {x : StopSet} {r : MotionRecord} {w : Division}
    (hkeys : (s.motion.records.map MotionRecord.key).Nodup) (hfind : s.motion.find d i = some r) (hstate : r.state = .aligned)
    (htarget : r.target ≠ r.sensed) (hw : s.image[d]? = some w) (hx : (s.config.restrict d x).getLsbD i = r.sensed) :
    (changedBy [(d, x)] s).motion.find d i = some { r with target := r.sensed, retry := 0 } := by
  obtain ⟨hd, hi⟩ := Prod.mk.inj (find_mem hfind).2
  have hf : followsDivision d (s.config.restrict d x) r = { r with target := r.sensed, retry := 0 } := by
    rw [followsDivision, if_pos hd, hi, hx, retargeted, if_neg htarget]
    simp [hstate, hi]
  rw [changedBy_single_motion x hw, ← hf]
  exact motionAfter_find hkeys (followsDivision_key d _) hfind (by rw [hf]; simp [hstate])

/-- A hand motion leaves the control's bit of its division's set at the sensed value (R8). -/
theorem getLsbD_handMotion {c : Configuration} {d i : Nat} (x : StopSet) (v : Bool) (hi : i < c.controlsOf d)
    (hc : c.controlsOf d ≤ 48) : (c.restrict d (if v then withStop x i else withoutStop x i)).getLsbD i = v := by
  have hdefined : (definedIndices (c.controlsOf d)).getLsbD i = true := (mem_definedIndices hc i).2 hi
  have hi48 : i < 48 := by omega
  have hbit : (BitVec.ofNat 48 (2 ^ i)).getLsbD i = true := by
    rw [BitVec.getLsbD_ofNat, Nat.testBit_two_pow_self, decide_eq_true hi48]
    rfl
  cases v <;> simp only [Configuration.restrict, withStop, withoutStop, BitVec.getLsbD_and, BitVec.getLsbD_or, BitVec.getLsbD_not,
    hdefined, hbit, hi48, if_true, Bool.false_eq_true, if_false] <;> simp

/-- A sound layout has 1 to 48 controls in each division (R123). -/
theorem layoutOk_controls {l : Layout} (h : layoutOk l = true) : ∀ k ∈ l.controls, 1 ≤ k ∧ k ≤ 48 := by
  simp only [layoutOk, Bool.and_eq_true, List.all_eq_true, decide_eq_true_eq, and_assoc] at h
  obtain ⟨-, -, hcontrols, -⟩ := h
  exact hcontrols

/-- A sound configuration has at most 48 controls in a division (R123). -/
theorem controlsOf_le {s : State} (h : configured s) (d : Nat) : s.config.controlsOf d ≤ 48 := by
  unfold configured at h
  unfold State.config Configuration.controlsOf
  rw [List.getD_eq_getElem?_getD]
  cases hc : s.cfg with
  | none => simp [noConfiguration]
  | some c =>
    rw [hc] at h
    have hok := h.2.1
    simp only [figuresOk, Bool.and_eq_true, and_assoc] at hok
    obtain ⟨hlayout, -⟩ := hok
    rw [Option.getD_some]
    cases hn : c.layout.controls[d]? with
    | none => simp
    | some k => exact (layoutOk_controls hlayout k (List.mem_of_getElem? hn)).2

/-- Settles O43: the update of the record by its state, and at a hand motion the local change that follows it. -/
theorem senseChangesActByTheState : Obligations.SenseChangesActByTheState := by
  unfold Obligations.SenseChangesActByTheState
  intro s n d i v r hf hconf himage hmotion hfind hv new m
  obtain ⟨hmem, hkey⟩ := find_mem hfind
  have hr : recordOk r := (hmotion.2.1 r hmem).1
  have hnew : r.setSensed v = new := setSensed_eq hr hv
  refine ⟨fun hs hstate => ?notAligned, fun hs hstate => ?aligned, fun hs => ?lineAlone⟩
  case notAligned =>
    rw [exec_stopSenseChange hf hmotion hfind hv hs.symm, if_neg hstate, hnew]
  case aligned =>
    have hexec := exec_stopSenseChange hf hmotion hfind hv (.inl hs)
    rw [hnew] at hexec
    dsimp only at hexec
    rw [if_pos hstate, handMotion, localChange_changedBy _ _ (by simp [hs, Station.takesHandOvers]) (by simp)] at hexec
    refine ⟨_, hexec, rfl, ?_⟩
    have hsensed : new = { r with sensed := v } := by simp only [new, hstate]
    let u : State := { atLine s n v with motion := judged s m }
    have hmotionAfter : u.motion = motionAfter s (onRecord d i (MotionRecord.setSensed v)) := by
      show judged s m = judged s (s.motion.update _)
      rw [update_setSensed hmotion hfind hv, hnew]
    have hkeeps := onRecord_key (d := d) (i := i) (setSensed_key v)
    have hfound : u.motion.find d i = some new := by
      have hrec : onRecord d i (MotionRecord.setSensed v) r = new := by
        rw [onRecord, if_pos (Prod.mk.inj hkey), hnew]
      rw [hmotionAfter, ← hrec]
      exact motionAfter_find (nodup_keys hmotion) hkeeps hfind (by rw [hrec, ← hnew]; exact setSensed_not_queued hr hv)
    have hkeys : (u.motion.records.map MotionRecord.key).Nodup := by
      rw [hmotionAfter, motionAfter_keys s hkeeps]
      exact nodup_keys hmotion
    have hcontrol : (d, i) ∈ s.config.sensedControls := by
      rw [← hmotion.1, ← hkey]
      exact List.mem_map_of_mem hmem
    obtain ⟨hd, hi⟩ := mem_sensedControls hcontrol
    have hw := List.getElem?_eq_getElem (l := u.image) (i := d) (show d < s.image.length from himage.1 ▸ hd)
    have haligned : r.sensed = r.target := by
      obtain ⟨-, hr⟩ := hr
      rw [hstate] at hr
      exact hr.1
    have hbit := getLsbD_handMotion (c := s.config) (s.drawn d) v hi (controlsOf_le hconf d)
    have hresult := changedBy_find hkeys hfound (by rw [hsensed]; exact hstate) (by rw [hsensed]; exact haligned ▸ hv) hw
      (by rw [hsensed]; exact hbit)
    exact hresult.trans (by rw [hsensed])
  case lineAlone =>
    rw [exec, execStopSenseChange, lineEvent_only (by rw [hf]; rfl)]
    rcases hs with hs | hs <;> simp [hs, hf, handsOn]

/-! ### Join end (R154) -/

/-- Where f leaves no record Queued, none waits after every record passed through f, and no pulse starts (R105, R107). -/
theorem motionAfter_rests {s : State} {f : MotionRecord → MotionRecord} (hf : ∀ r ∈ s.motion.records, (f r).state ≠ .queued) :
    (motionAfter s f).queue = [] ∧ (motionAfter s f).records = s.motion.records.map f := by
  have hempty : (s.motion.update f).queue = [] := by
    refine List.eq_nil_iff_forall_not_mem.2 fun k hk => ?_
    obtain ⟨r, hr, -, hq⟩ := mem_update_queue hk
    exact hf r hr hq
  change (judged s (s.motion.update f)).queue = [] ∧ (judged s (s.motion.update f)).records = _
  simp only [judged, hempty]
  simp [Motion.update]

/-- A new target leaves an Unaligned record Unaligned (R106). -/
theorem retargeted_unaligned {r : MotionRecord} (v : Bool) (h : r.state = .unaligned) : (retargeted v r).state = .unaligned := by
  unfold retargeted
  split
  · exact h
  · simp [h]

/-- Records that stand aside stay so where f keeps each Unaligned. -/
theorem motionAfter_unaligned {s : State} {f : MotionRecord → MotionRecord}
    (hf : ∀ r, r.state = .unaligned → (f r).state = .unaligned) (hr : ∀ r ∈ s.motion.records, r.state = .unaligned) :
    (motionAfter s f).queue = [] ∧ ∀ r ∈ (motionAfter s f).records, r.state = .unaligned := by
  obtain ⟨hqueue, hrecords⟩ := motionAfter_rests fun r hmem => by rw [hf r (hr r hmem)]; simp
  refine ⟨hqueue, fun r hmem => ?_⟩
  rw [hrecords] at hmem
  obtain ⟨q, hq, rfl⟩ := List.mem_map.1 hmem
  exact hf q (hr q hq)

/-- Records that stand aside stay so over a local change (R106, R116). -/
theorem changedBy_unaligned {s : State} (cs : List (Nat × StopSet)) (hq : s.motion.queue = [])
    (hr : ∀ r ∈ s.motion.records, r.state = .unaligned) :
    (changedBy cs s).motion.queue = [] ∧ ∀ r ∈ (changedBy cs s).motion.records, r.state = .unaligned := by
  unfold changedBy
  split
  · exact ⟨hq, hr⟩
  · refine motionAfter_unaligned (fun r hr => ?_) hr
    split
    · exact retargeted_unaligned _ hr
    · exact hr

/-- Outside Awake all records stand aside and none waits (R102, R105). -/
theorem motionOk_asleep {s : State} (h : motionOk s) (hs : s.station ≠ .awake) :
    s.motion.queue = [] ∧ ∀ r ∈ s.motion.records, r.state = .unaligned := by
  have hr : ∀ r ∈ s.motion.records, r.state = .unaligned := fun r hmem => (h.2.1 r hmem).2.2 hs
  refine ⟨List.eq_nil_iff_forall_not_mem.2 fun k hk => ?_, hr⟩
  obtain ⟨r, hmem, -, hq⟩ := (h.2.2.2.1 k).1 hk
  simp [hr r hmem] at hq

/-- The divisions still unset, read from the image (R154). -/
theorem unsetDivisions_eq {s : State} (h : s.image.length = s.divisionCount) : s.unsetDivisions =
    (List.range s.divisionCount).filter fun d => (s.image[d]?.map (·.stamp.era)) == some 0#16 := by
  refine List.filter_congr fun d hd => ?_
  have hlt : d < s.image.length := h ▸ List.mem_range.1 hd
  rw [division_of_getElem? (List.getElem?_eq_getElem hlt), List.getElem?_eq_getElem hlt]
  rfl

theorem returnSlot_eq (s : State) : s.returnSlot = s.bases.levelBase + (s.config.returnGeneral - 1) := by
  simp [State.returnSlot, pistonSlot]

/-- The sets of the last registration, empty for a slot that fails its check (R154). -/
theorem setAt_lastRegistration (o : Option Content) {d : Nat} (hd : d < 8) :
    setAt (match o with | some c => unpackSets c 0 | none => emptySets) d = (o.getD 0#496).extractLsb' (48 * d) 48 := by
  cases o with
  | none => simp [hd]
  | some c => simp [setAt_unpackSets c 0 hd, show 8 * (6 * d) = 48 * d by omega]

/-- The slots the power-return policy reads (R154). -/
def returnSlots (s : State) : List Nat :=
  match s.config.policy with
  | .last => [29]
  | .general => [s.bases.levelBase + (s.config.returnGeneral - 1)]
  | .cancel | .keep => []

theorem policyReads_eq (s : State) : s.policyReads = returnSlots s := by
  unfold State.policyReads returnSlots
  rw [returnSlot_eq]
  rfl

/-- The console is judged by the line table and the lines alone (R129). -/
theorem consoleOn_congr {s t : State} (hc : t.config = s.config) (hs : t.scanner = s.scanner) : t.consoleOn = s.consoleOn := by
  simp only [State.consoleOn, State.lineOf, State.anyActive, State.functionOfLine, State.qualified, hc, hs]

/-- Settles O25: the policy is a local change after its reads, and the records, which stand aside, enter with the station. -/
theorem joinEndAppliesThePolicy : Obligations.JoinEndAppliesThePolicy := by
  unfold Obligations.JoinEndAppliesThePolicy
  refine ⟨fun s hs hconf himage hmotion => ?joins, fun s hs => by rw [exec, execJoinEnd, if_neg hs]⟩
  intro unset general slots changes v u
  let w : State := { s with start := { s.start with joinMs := 1000 } }
  have h8 : s.divisionCount ≤ 8 := divisionCount_le s hconf
  have hunset : w.unsetDivisions = unset := unsetDivisions_eq (s := w) himage.1
  have hlt : ∀ d ∈ unset, d < 8 := fun d hd => by
    have := List.mem_range.1 (List.mem_filter.1 hd).1
    omega
  have hreads : noteReads w.policyReads w = v := by rw [policyReads_eq, noteReads_afterReads]; rfl
  have hchanges : w.policyChanges = changes := by
    have hnewest : newest w.memory w.returnSlot = newest s.memory general := by rw [returnSlot_eq]; rfl
    have hconfig : w.config.policy = s.config.policy := rfl
    rw [State.policyChanges, hunset, hnewest, hconfig]
    simp only [changes]
    cases s.config.policy with
    | keep => rfl
    | cancel => rfl
    | last => exact List.map_congr_left fun d hd => congrArg _ (setAt_lastRegistration _ (hlt d hd))
    | general =>
      cases newest s.memory general with
      | none => rfl
      | some c =>
        have hscope : unset.filter (fun d => (recordOf c).scope.getLsbD d) = unset.filter fun d => c.getLsbD d :=
          List.filter_congr fun d hd => getLsbD_recordOf_scope c (hlt d hd)
        dsimp only
        rw [hscope]
        exact List.map_congr_left fun d hd => congrArg _ (setAt_recordOf_sets c (hlt d (List.mem_filter.1 hd).1))
  have hpolicy : applyPolicy w = u := by
    have hv : v.station = s.station := by rw [← hreads]; simp [w]
    rw [applyPolicy, hreads, hchanges]
    exact localChange_changedBy v changes (by rw [hv, hs]; rfl) (hchanges ▸ nodup_policyChanges w)
  have hexec : exec .joinEnd s = .next (if u.consoleOn then enterAwake u else enterDormant u) := by
    rw [exec, execJoinEnd, if_pos hs]
    change Host.Outcome.next (if (applyPolicy w).consoleOn then enterAwake (applyPolicy w) else enterDormant (applyPolicy w)) = _
    rw [hpolicy]
  have hconsole : u.consoleOn = s.consoleOn := by
    rw [← hpolicy]
    exact consoleOn_congr (by simp [w]; rfl) (by simp [w])
  have hasleep : u.motion.queue = [] ∧ ∀ r ∈ u.motion.records, r.state = .unaligned := by
    have hv : v.motion = s.motion := by rw [← hreads]; simp [w]
    obtain ⟨hq, hr⟩ := motionOk_asleep hmotion (by simp [hs])
    exact changedBy_unaligned changes (hv ▸ hq) (hv ▸ hr)
  rw [hconsole] at hexec
  refine ⟨_, hexec, fun hon => ?_, fun hoff => ?_⟩
  · rw [if_pos hon]
    exact enterAwake_entered u hasleep.1 fun r hmem => by rw [hasleep.2 r hmem]; simp
  · rw [if_neg (by simp [hoff])]
    exact enterDormant_entered u

/-! ### The entry into Joining (R136, R166) -/

/-- The faults after slots were read: MEMORY_CHECK joined where one failed (R47). -/
def faultsAfterReads (slots : List Nat) (s : State) : FaultSet :=
  if failing s.memory slots then s.faults ||| kindBit .memoryCheck else s.faults

/-- In Start a failed check latches, and no notice is handed (R145, R160). -/
theorem afterReads_silent {s : State} (slots : List Nat) (hs : s.station.takesHandOvers = false) :
    afterReads slots s = { s with faults := faultsAfterReads slots s } := by
  unfold afterReads faultsAfterReads reported handedRoutine
  simp only [hs]
  split
  · simp
  · rfl

/-- In a state that takes hand-overs the notice of a failed check is handed where the kind is routed to Notice (R138, R160). -/
theorem afterReads_handed {s : State} (slots : List Nat) (hs : s.station.takesHandOvers = true) :
    afterReads slots s = { s with
      faults := faultsAfterReads slots s
      link := { s.link with
        routine := if failing s.memory slots ∧ s.config.routes.notice.getLsbD (faultCode .memoryCheck) = true
          then waitingWith s.link.routine (.faultNotice .memoryCheck) else s.link.routine } } := by
  unfold afterReads faultsAfterReads reported handedRoutine
  simp only [hs, if_true]
  by_cases hf : failing s.memory slots = true
  · by_cases hn : s.config.routes.notice.getLsbD (faultCode .memoryCheck) = true <;> simp [hf, hn]
  · simp [hf]

/-- What an accepted configuration says of the slots read: slot 0 holds an identity, and the copy is what the block spells (R136,
R167). -/
theorem identityOf_accepted {read : Nat → Option Content} {c : Configuration} (h : checkConfiguration read = some c) :
    identityOf (read 0) = (c.number, c.rate) := by
  unfold checkConfiguration at h
  split at h
  · rename_i hok
    obtain ⟨hall, hok⟩ := (Bool.and_eq_true _ _).mp hok
    obtain rfl := Option.some.inj h
    have hsome : (read 0).isSome = true := List.all_eq_true.1 hall 0 (by decide)
    obtain ⟨c0, hc0⟩ := Option.isSome_iff_exists.1 hsome
    simp only [configurationOk, Bool.and_eq_true, and_assoc] at hok
    obtain ⟨hid, -⟩ := hok
    rw [hc0] at hid ⊢
    simp only [Option.getD_some] at hid
    simp [identityOf, hid, configurationOf, hc0]
  · cases h

/-- The notices of the latched kinds, handed in ascending code (R160). -/
theorem noticesAtStartEnd_handed {s : State} (hs : s.station.takesHandOvers = true) : noticesAtStartEnd s =
    { s with link := { s.link with routine := noticesHanded s.faults s.config.routes.notice s.link.routine } } := by
  rw [noticesAtStartEnd, handOverAll_routine s _ (fun f hf => by obtain ⟨k, -, rfl⟩ := List.mem_map.1 hf; rfl) hs,
    List.foldl_map]
  rfl

/-- A level's list loaded: the slots read, and the steps before the first that is none (R69). -/
theorem loadLevel_eq (level : Nat) (s : State) : loadLevel level s =
    { afterReads (s.sequenceSlots level) s with sequencer := { steps := s.storedSteps level, cursor := 0 } } := by
  rw [loadLevel, noteReads_afterReads]
  rfl

/-- The sequence slots of level 1 (R52). -/
theorem sequenceSlots_one (s : State) :
    s.sequenceSlots 1 = (List.range (s.config.layout.steps / 16)).map fun j => s.bases.seqBase + j := by
  simp [State.sequenceSlots, sequenceSlot, Layout.sequenceSlots]

/-- In Start the reading of the block latches, and slot 0 of an accepted one fixes the identity (R136, R166). -/
theorem fixIdentity_accepted {s : State} {c : Configuration} (hs : s.station = .start)
    (hc : checkConfiguration (newest s.memory) = some c) : fixIdentity (noteReads (List.range 32) s) =
      { s with
        faults := faultsAfterReads (List.range 32) s
        link := { s.link with number := c.number, rate := c.rate } } := by
  have hread : newest (noteReads (List.range 32) s).memory = newest s.memory := by simp
  rw [fixIdentity, hread, identityOf_accepted hc, noteReads_afterReads, afterReads_silent _ (by rw [hs]; rfl)]
  rfl

/-- A station that has entered Joining, its timers begun and the notices of the kinds latched in Start handed (R153, R160). -/
def noticesSent (s : State) : State :=
  { s with
    station := .joining
    start := { s.start with joinMs := 0, heartbeatMs := 0 }
    link := { s.link with routine := noticesHanded s.faults s.config.routes.notice s.link.routine } }

/-- The entry into Joining: notices, heartbeat, records, reference pair and effective additions, then level 1 (log entry 14). -/
theorem enterJoining_eq (s : State) : enterJoining s =
    let t := takeReference (makeRecords (heartbeatSent (noticesSent s) .joining))
    loadLevel 1 { t with crescendo := { t.crescendo with effective := t.formedEffective } } := by
  have hnotices : noticesAtStartEnd ((s.setStation .joining).setStart { s.start with joinMs := 0, heartbeatMs := 0 }) =
      noticesSent s := noticesAtStartEnd_handed rfl
  have hheartbeat : handHeartbeat (noticesSent s) = heartbeatSent (noticesSent s) .joining :=
    handHeartbeat_sent (s := noticesSent s) rfl rfl (by simp [noticesSent])
  simp only [enterJoining]
  rw [hnotices, hheartbeat, formEffective_eq _ rfl]

/-- Settles O23: the configuration is accepted with the identity fixed, and the hand-overs of the entry follow one another. -/
theorem acceptedConfigurationSendsToJoining : Obligations.AcceptedConfigurationSendsToJoining := by
  unfold Obligations.AcceptedConfigurationSendsToJoining
  refine ⟨fun s contacts c hs hstrap hc => ?accepted, fun s contacts hs hstrap => ?waits, fun s contacts hs => ?elsewhere⟩
  case waits =>
    rw [exec, execConfigurationCheck, if_pos hs]
    simp only [hstrap]
  case elsewhere => rw [exec, execConfigurationCheck, if_neg hs]
  case accepted =>
    intro faults handed levelFails
    have hexec : exec (.configurationCheck contacts) s = .next (enterJoining (acceptConfiguration c contacts
        { s with faults := faults, link := { s.link with number := c.number, rate := c.rate } })) := by
      rw [exec, execConfigurationCheck, if_pos hs]
      simp only [hstrap, leaveStart, Bool.false_eq_true, if_false]
      rw [fixIdentity_accepted hs hc, hc]
      rfl
    refine ⟨_, hexec, ?_⟩
    rw [enterJoining_eq, loadLevel_eq, sequenceSlots_one, afterReads_handed _ rfl]
    rfl

end Sys2Proof.Proofs
end

section
/-!
PROOFS. The statements about controls outside Awake, captures, levels and indicators, and the Sequencer's steps and edits. First what
a line's change leaves of the figures that a press reads, then each press in Awake from the lemmas of its block.
-/

namespace Sys2Proof.Proofs

open Sys2Proof Sys2Proof.Machine Sys2Proof.Safety

/-! ### Controls outside Awake (R21, R125 to R128) -/

/-- A press or release of a line of this function acts in Awake alone (R21, R70, R80). -/
def awakeControl : LineFunction → Bool
  | .generalPiston _ | .divisionalPiston .. | .set | .generalCancel | .divisionCancel _ | .levelUp | .levelDown | .protect
  | .sequencerNext | .sequencerPrevious | .tutti | .crescendoProgram | .crescendoSet => true
  | .unused | .stopSense .. | .protectOverride | .consoleKey | .faultAcknowledge | .encoderA | .encoderB | .encoderIndex => false

/-- The release of a line of this function is a local event in Awake (R45, R62; log entry 42). -/
abbrev releaseReports (f : LineFunction) : Prop :=
  f.isGeneralPiston = true ∨ f.isDivisionalPiston = true ∨ f ∈ [.generalCancel, .levelUp, .levelDown]

theorem handPress_outsideAwake {f : LineFunction} {s : State} (hf : awakeControl f = true) (hs : s.station ≠ .awake) :
    handPress f s = s := by
  cases f with
  | generalPiston g => exact if_neg hs
  | divisionalPiston d k => exact if_neg hs
  | divisionCancel d => exact if_neg hs
  | crescendoSet => exact if_neg fun h => hs h.1
  | set | generalCancel | levelUp | levelDown | protect | sequencerNext | sequencerPrevious | tutti | crescendoProgram =>
    exact if_neg hs
  | unused | stopSense | protectOverride | consoleKey | faultAcknowledge | encoderA | encoderB | encoderIndex => cases hf

theorem handRelease_outsideAwake {f : LineFunction} {s : State} (hf : awakeControl f = true) (hs : s.station ≠ .awake) :
    handRelease f s = s := by
  cases f with
  | set | generalCancel | levelUp | levelDown => exact if_neg hs
  | generalPiston g => exact if_neg hs
  | divisionalPiston d k => exact if_neg hs
  | divisionCancel d => exact if_neg hs
  | protect | sequencerNext | sequencerPrevious | tutti | crescendoProgram | crescendoSet => rfl
  | unused | stopSense | protectOverride | consoleKey | faultAcknowledge | encoderA | encoderB | encoderIndex => cases hf

/-- Outside Awake and Joining the Console key and the press of the Encoder index alone are handed on (R128). -/
theorem handsOn_false {f : LineFunction} {st : Station} {v : Bool} (hs : ¬(st = .awake ∨ st = .joining)) (hkey : f ≠ .consoleKey)
    (hindex : f = .encoderIndex → v = false) : handsOn st f v = false := by
  cases st with
  | awake | joining => simp at hs
  | dormant => simpa [handsOn, hkey] using hindex
  | off | start | unconfigured | service | restarting => rfl

/-- Outside Awake a change of a control's line qualifies the line alone: in Joining its block does not act, elsewhere nothing is handed
on (R21, R128). -/
theorem lineEvent_outsideAwake {s : State} {n : Nat} {v : Bool} {carries : LineFunction → Bool}
    (hc : carries (s.functionOfLine n) = true) (hf : awakeControl (s.functionOfLine n) = true) (hs : s.station ≠ .awake) :
    lineEvent carries n v s = atLine s n v := by
  by_cases hj : s.station = .joining
  · rw [lineEvent_handed hc (.inr hj), handPress_outsideAwake hf (by simpa using hs),
      handRelease_outsideAwake hf (by simpa using hs), ite_self]
  · exact lineEvent_only hc (handsOn_false (by simp [hs, hj]) (fun h => by simp [h, awakeControl] at hf)
      fun h => by simp [h, awakeControl] at hf)

/-- A plain release does nothing, or is a local event in Awake (R45, R62). -/
theorem handRelease_plain {f : LineFunction} {s : State} (hf : f.plainRelease = true) :
    (releaseReports f ∧ handRelease f s = reportRelease s) ∨ (¬ releaseReports f ∧ handRelease f s = s) := by
  cases f <;> simp_all [LineFunction.plainRelease, releaseReports, LineFunction.isGeneralPiston, LineFunction.isDivisionalPiston,
    handRelease]

/-- Settles O28: a press outside Awake reaches no block that acts, and a line of another function gives no event. -/
theorem controlsActInAwakeAlone : Obligations.ControlsActInAwakeAlone := by
  unfold Obligations.ControlsActInAwakeAlone
  refine ⟨fun s n g d k f c hs hf hmem => ?outside, fun s n hplain => ?release, fun s n v carries c hmem hother => ?other⟩
  case outside =>
    have hpress : ∃ carries : LineFunction → Bool,
        carries f = true ∧ awakeControl f = true ∧ exec c s = .next (lineEvent carries n true s) := by
      simp only [List.mem_cons, Prod.mk.injEq, List.not_mem_nil, or_false] at hmem
      rcases hmem with ⟨rfl, rfl⟩ | ⟨rfl, rfl⟩ | ⟨rfl, rfl⟩ | ⟨rfl, rfl⟩ | ⟨rfl, rfl⟩ | ⟨rfl, rfl⟩ | ⟨rfl, rfl⟩ | ⟨rfl, rfl⟩
        | ⟨rfl, rfl⟩ | ⟨rfl, rfl⟩ | ⟨rfl, rfl⟩ | ⟨rfl, rfl⟩ | ⟨rfl, rfl⟩ <;> exact ⟨_, rfl, rfl, rfl⟩
    obtain ⟨carries, hc, ha, hexec⟩ := hpress
    subst hf
    refine ⟨?_, fun hset => ?_, fun hcancel => ?_⟩
    · rw [hexec, lineEvent_outsideAwake hc ha hs]
    · rw [exec, execSetRelease, lineEvent_outsideAwake (by rw [hset]; rfl) ha hs]
    · rw [exec, execDivisionCancelRelease, lineEvent_outsideAwake (by rw [hcancel]; rfl) ha hs]
  case release =>
    have hstation : (atLine s n false).station = s.station := rfl
    rw [exec, execLineRelease]
    congr 1
    change _ = if s.station = .awake ∧ releaseReports (s.functionOfLine n) then _ else _
    by_cases hs : s.station = .awake ∨ s.station = .joining
    · rw [lineEvent_handed hplain hs, if_neg (by simp)]
      rcases handRelease_plain (s := atLine s n false) hplain with ⟨hr, he⟩ | ⟨hr, he⟩
      · rw [he, reportRelease, hstation]
        simp only [hr, and_true]
        rfl
      · rw [he, if_neg fun h => hr h.2]
    · have hnone : handsOn s.station (s.functionOfLine n) false = false :=
        handsOn_false hs (fun h => by simp [h, LineFunction.plainRelease] at hplain) fun _ => rfl
      rw [if_neg fun h => hs (.inl h.1), lineEvent_only hplain hnone]
  case other =>
    have hevent : ∃ active, exec c s = .next (lineEvent carries n active s) := by
      simp only [List.mem_cons, Prod.mk.injEq, List.not_mem_nil, or_false] at hmem
      rcases hmem with ⟨rfl, rfl⟩ | ⟨rfl, rfl⟩ | ⟨rfl, rfl⟩ | ⟨rfl, rfl⟩ | ⟨rfl, rfl⟩ | ⟨rfl, rfl⟩ | ⟨rfl, rfl⟩ | ⟨rfl, rfl⟩
        | ⟨rfl, rfl⟩ | ⟨rfl, rfl⟩ | ⟨rfl, rfl⟩ | ⟨rfl, rfl⟩ | ⟨rfl, rfl⟩ | ⟨rfl, rfl⟩ | ⟨rfl, rfl⟩ | ⟨rfl, rfl⟩ | ⟨rfl, rfl⟩
        | ⟨rfl, rfl⟩ | ⟨rfl, rfl⟩ <;> exact ⟨_, rfl⟩
    obtain ⟨active, hexec⟩ := hevent
    rw [hexec, lineEvent_none hother]

/-! ### Captures (R31 to R37, R45) -/

/-- A press leaves the Protect override, which its line does not carry (R40). -/
theorem atLine_overrideActive {s : State} {n : Nat} {v : Bool} {f : LineFunction} (hf : s.functionOfLine n = f)
    (hne : f ≠ .protectOverride) : (atLine s n v).overrideActive = s.overrideActive :=
  atLine_anyActive (by rwa [hf])

theorem captureRefused_iff (s : State) :
    s.captureRefused = true ↔ (s.levelProtected = true ∧ s.overrideActive = false) ∨ s.supply.low2 = true := by
  simp [State.captureRefused]

theorem capturePiston_refused {s : State} {p : Piston} {r : Record}
    (h : s.captureRefused = true ∨ ¬ roomFor s [Safety.slotOfPiston s p]) : capturePiston p r s = refuse s := by
  unfold capturePiston
  split
  · rfl
  · rename_i hr
    rw [writeRequest_refused s (by rw [slotOfPiston_eq]; exact h.resolve_left hr)]

theorem capturePiston_taken {s : State} {p : Piston} {r : Record} (hs : s.station = .awake) (hr : ¬ s.captureRefused = true)
    (hroom : roomFor s [Safety.slotOfPiston s p]) : capturePiston p r s =
      { s with
        memory := written s [{ slot := Safety.slotOfPiston s p, content := Record.content r, source := .capture }]
        recallUnit := { s.recallUnit with live := some (s.recallUnit.level, p), snapshot := some r } } := by
  rw [capturePiston, if_neg hr, slotOfPiston_eq, writeRequest_taken s (by simp [hs]) (by exact hroom)]
  rfl

/-- A record is the capture of a scope where its scope is that one, and its sets are the drawn ones within it (R33, R34). -/
theorem eq_capturedRecord {s : State} {scope : DivisionSet} {r : Record}
    (hscope : ∀ d, d < 8 → r.scope.getLsbD d = scope.getLsbD d)
    (hsets : r.sets = (List.range 8).map fun d => if r.scope.getLsbD d then s.drawn d else 0#48) :
    r = s.capturedRecord scope := by
  have he : r.scope = scope := BitVec.eq_of_getLsbD_eq hscope
  obtain ⟨rscope, rsets⟩ := r
  subst he
  exact congrArg (Record.mk rscope) hsets

/-- A divisional's scope is its own division (R34). -/
theorem getLsbD_oneDivision (d : Nat) {e : Nat} (he : e < 8) : (BitVec.ofNat 8 (2 ^ d)).getLsbD e = (e == d) := by
  rw [BitVec.getLsbD_ofNat, Nat.testBit_two_pow, decide_eq_true he, Bool.true_and]
  exact Bool.eq_iff_iff.2 (by simpa using eq_comm)

/-- Settles O31: the press is the capture after the local event, of the record that the statement describes. -/
theorem pistonCapture : Obligations.PistonCapture := by
  unfold Obligations.PistonCapture
  intro s n p c r hs hheld hpress hsets u refused
  have hexec : exec c s = .next (capturePiston p r u) ∧ u.overrideActive = s.overrideActive := by
    have hawake : (atLine s n true).station = .awake := by simpa using hs
    have hset : (atLine s n true).setIsHeld = true := by simpa using hheld
    rcases hpress with ⟨g, rfl, hf, rfl, hscope⟩ | ⟨d, k, rfl, hf, rfl, hscope⟩
    · have hr : r = (atLine s n true).capturedRecord (atLine s n true).captureScope :=
        eq_capturedRecord (fun d _ => by rw [hscope, getLsbD_captureScope]; rfl) hsets
      refine ⟨?_, atLine_overrideActive hf (by simp)⟩
      rw [exec, execGeneralPiston, lineEvent_pressed hf rfl hs, handPress, pressGeneral, if_pos hawake]
      simp only [hset, if_true, ← hr]
      rfl
    · have hr : r = (atLine s n true).capturedRecord (BitVec.ofNat 8 (2 ^ d)) :=
        eq_capturedRecord (fun e he => by rw [hscope e he, getLsbD_oneDivision d he]) hsets
      refine ⟨?_, atLine_overrideActive hf (by simp)⟩
      rw [exec, execDivisionalPiston, lineEvent_pressed hf rfl hs, handPress, pressDivisional, if_pos hawake]
      simp only [hset, if_true, ← hr]
      rfl
  obtain ⟨hexec, hoverride⟩ := hexec
  have hrefused : refused ↔ u.captureRefused = true ∨ ¬ roomFor u [Safety.slotOfPiston u p] := by
    rw [captureRefused_iff, hoverride, or_assoc]
    rfl
  refine ⟨fun h => ?_, fun h => ?_⟩
  · rw [hexec, capturePiston_refused (hrefused.1 h)]
    rfl
  · rw [hrefused, not_or, not_not] at h
    obtain ⟨hfree, hroom⟩ := h
    rw [hexec, capturePiston_taken (by simpa [u] using hs) hfree hroom]
    rfl

/-! ### Stage and tutti captures (R37, R90 to R93) -/

/-- Read slots leave room and writes as they are: they touch neither memory nor supply (R47). -/
theorem writeRequest_afterReads (slots : List Nat) (s : State) {r : List WriteEntry} (hs : s.station = .awake)
    (hroom : roomFor s (r.map (·.slot))) :
    writeRequest r (afterReads slots s) = some { afterReads slots s with memory := written s r } := by
  rw [afterReads_eq, writeRequest_taken _ (by simp [hs]) (by exact hroom)]
  rfl

theorem stageCaptureRefused_iff (s : State) : s.stageCaptureRefused = true ↔
    s.crescendo.program = 0 ∨ s.crescendo.stage = 0 ∨ s.crescendo.held = true ∨ s.supply.low2 = true := by
  simp [State.stageCaptureRefused, or_assoc]

theorem hasEntryFor_iff (s : State) (n : Nat) : s.hasEntryFor n = true ↔ roomFor s [n] := admits_iff s _

theorem captureStage_refused {s : State} (h : s.stageCaptureRefused = true ∨ ¬ roomFor s [s.presentStageSlot]) :
    captureStage s = refuse s := by
  rw [captureStage, if_pos]
  rw [← hasEntryFor_iff] at h
  simpa using h

/-- A stage capture taken: the stages below read, the increment queued, the local additions formed (R90, R91, R94). -/
theorem captureStage_taken {s : State} (hs : s.station = .awake) (h : ¬ s.stageCaptureRefused = true)
    (hroom : roomFor s [s.presentStageSlot]) : captureStage s =
      formAdditions s.crescendo { afterReads (s.stageSlots s.crescendo.program (s.crescendo.stage - 1)) s with
        memory := written s [{ slot := s.presentStageSlot, content := setsContent s.newIncrement, source := .stage }] } := by
  rw [captureStage, if_neg (by simp [h, (hasEntryFor_iff s _).2 hroom]), noteReads_afterReads]
  simp only
  rw [writeRequest_afterReads _ s hs (by exact hroom)]

theorem captureTutti_refused {s : State} (h : s.supply.low2 = true ∨ ¬ roomFor s [16383]) : captureTutti s = refuse s := by
  unfold captureTutti
  split
  · rfl
  · rename_i hlow
    rw [writeRequest_refused s (by exact h.resolve_left hlow)]

/-- A tutti capture taken: the drawn sets queued, and the local additions formed where local tutti is on (R93, R94). -/
theorem captureTutti_taken {s : State} (hs : s.station = .awake) (h : ¬ s.supply.low2 = true) (hroom : roomFor s [16383]) :
    captureTutti s =
      let w := { s with memory := written s [{ slot := 16383, content := setsContent s.drawnSets, source := .tutti }] }
      if s.crescendo.tutti = true then formAdditions s.crescendo w else w := by
  rw [captureTutti, if_neg h, writeRequest_taken s (by simp [hs]) (by exact hroom)]
  rfl

/-- Settles O39: each press under Set is the capture of its kind, refused or taken, once the line has qualified. -/
theorem crescendoCaptures : Obligations.CrescendoCaptures := by
  unfold Obligations.CrescendoCaptures
  intro s n hs hheld u slot below stageRefused increment tuttiRefused w
  have hu : u.station = .awake := hs
  have hstage : s.functionOfLine n = .crescendoSet → exec (.crescendoSet n) s = .next (captureStage u) := fun hf => by
    rw [exec, execCrescendoSet, lineEvent_pressed hf rfl hs, handPress, pressCrescendoSet, if_pos ⟨hs, hheld⟩]
  have htutti : s.functionOfLine n = .tutti → exec (.tutti n) s = .next (captureTutti u) := fun hf => by
    rw [exec, execTutti, lineEvent_pressed hf rfl hs, handPress, pressTutti, if_pos hu, if_pos (by exact hheld)]
  have hstageRefused : stageRefused ↔ u.stageCaptureRefused = true ∨ ¬ roomFor u [u.presentStageSlot] := by
    rw [stageCaptureRefused_iff, or_assoc, or_assoc, or_assoc]
    rfl
  have htaken : ¬ tuttiRefused → s.functionOfLine n = .tutti →
      exec (.tutti n) s = .next (if s.crescendo.tutti = true then formAdditions s.crescendo w else w) := fun h hf => by
    obtain ⟨hlow, hroom⟩ := not_or.1 h
    rw [htutti hf, captureTutti_taken hu hlow (not_not.1 hroom)]
    rfl
  refine ⟨fun hf h => ?stageRefused, fun hf h => ?stageTaken, fun hf h => ?tuttiRefused, fun hf h hoff => ?tuttiOff,
    fun hf h hon => ?tuttiOn⟩
  case stageRefused => rw [hstage hf, captureStage_refused (hstageRefused.1 h)]; rfl
  case stageTaken =>
    rw [hstageRefused, not_or, not_not] at h
    obtain ⟨hfree, hroom⟩ := h
    refine ⟨_, hstage hf, ?_⟩
    rw [captureStage_taken hu hfree hroom]
    exact formAdditions_formed _ s.crescendo (by rw [afterReads_eq]; simp [hu, Station.inPlay])
  case tuttiRefused => rw [htutti hf, captureTutti_refused (s := u) h]; rfl
  case tuttiOff => rw [htaken h hf, if_neg (by simp [hoff])]
  case tuttiOn =>
    refine ⟨_, htaken h hf, ?_⟩
    rw [if_pos hon]
    exact formAdditions_formed w s.crescendo (by simp [w, hu, Station.inPlay])

/-! ### The Sequencer's steps (R68 to R73) -/

theorem stepInRange_general (s : State) (g : Nat) :
    s.stepInRange (.general g) = true ↔ 1 ≤ g ∧ g ≤ s.config.layout.generals := by
  simp [State.stepInRange]

theorem stepInRange_divisional (s : State) (d k : Nat) : s.stepInRange (.divisional d k) = true ↔
    d < s.divisionCount ∧ 1 ≤ k ∧ k ≤ s.config.layout.divisionals.getD d 0 := by
  simp [State.stepInRange, Layout.divisionalsOf, and_assoc]

theorem performStep_of_getElem? {s : State} {x : SequenceStep} (h : s.sequencer.steps[s.sequencer.cursor - 1]? = some x) :
    performStep s = if s.stepInRange x then takeStep x s else s := by
  simp only [performStep, h]

/-- What the step at the cursor does: it recalls its piston or cancels, after the local event, and does nothing out of range (R28,
R73). -/
def StepPerformed (x : SequenceStep) (u t : State) : Prop :=
  match x with
  | .general g => if 1 ≤ g ∧ g ≤ u.config.layout.generals then Recalled (.general g) (localEvent u) t else t = u
  | .divisional d k =>
    if d < u.divisionCount ∧ 1 ≤ k ∧ k ≤ u.config.layout.divisionals.getD d 0 then
      Recalled (.divisional d k) (localEvent u) t
    else t = u
  | .generalCancel => Cancelled (localEvent u) t

theorem performStep_performed {s : State} {x : SequenceStep} (hs : s.station = .awake) (hd : s.divisionCount ≤ 8)
    (h : s.sequencer.steps[s.sequencer.cursor - 1]? = some x) : StepPerformed x s (performStep s) := by
  have hrecalled : ∀ p, Recalled p (localEvent s) (recallPiston p (localEvent s)) := fun p =>
    recallPiston_recalled (localEvent s) p (by simp [hs, Station.takesHandOvers]) hd
  rw [performStep_of_getElem? h]
  cases x with
  | general g =>
    simp only [StepPerformed, ← stepInRange_general]
    split
    · exact hrecalled _
    · rfl
  | divisional d k =>
    simp only [StepPerformed, ← stepInRange_divisional]
    split
    · exact hrecalled _
    · rfl
  | generalCancel => exact cancelAll_cancelled (localEvent s) (by simp [hs, Station.inPlay])

/-- Settles O35: a press without Set moves the cursor and performs the step there, or finds none. -/
theorem sequencerSteps : Obligations.SequencerSteps := by
  unfold Obligations.SequencerSteps
  intro s n cursor blinks c x hs hheld hconf himage hlevels hpress moved taken
  have hu : (atLine s n true).station = .awake := hs
  have hnot : ¬ (atLine s n true).setIsHeld = true := by simpa using hheld
  have hexec : exec c s = .next (if blinks = 2 then stepNext (atLine s n true) else stepPrevious (atLine s n true)) := by
    rcases hpress with ⟨hf, rfl, -, rfl⟩ | ⟨hf, rfl, -, rfl⟩
    · rw [exec, execSequencerNext, lineEvent_pressed hf rfl hs, handPress, pressNext, if_pos hu, if_neg hnot, if_pos rfl]
    · rw [exec, execSequencerPrevious, lineEvent_pressed hf rfl hs, handPress, pressPrevious, if_pos hu, if_neg hnot,
        if_neg (by decide)]
  have hmoved : 1 ≤ cursor → s.sequencer.steps[cursor - 1]? = some x → exec c s = .next (performStep moved) := by
    intro hone hx
    rw [hexec]
    rcases hpress with ⟨-, -, rfl, rfl⟩ | ⟨-, -, rfl, rfl⟩
    · rw [if_pos rfl, stepNext, if_pos (by exact (List.getElem?_eq_some_iff.1 hx).1)]
      rfl
    · rw [if_neg (by decide), stepPrevious, if_pos (by simp; omega)]
      rfl
  refine ⟨fun hone hx => ?moves, fun hblinks hend => ?ends, fun hblinks hstart => ?start⟩
  case moves =>
    have hperformed : StepPerformed x moved (performStep moved) :=
      performStep_performed hu (divisionCount_le s hconf) hx
    refine ⟨_, hmoved hone hx, ?_⟩
    cases x <;> exact hperformed
  case ends =>
    rw [hexec, if_pos hblinks, stepNext, if_neg (by simp [hend])]
    rfl
  case start => rw [hexec, hblinks, if_neg (by decide), stepPrevious, if_neg (by simp; omega)]

/-! ### The Sequencer's edits (R74 to R76) -/

theorem editBarred_iff (s : State) : s.editBarred = true ↔ s.levelProtected = true ∧ s.overrideActive = false := by
  simp [State.editBarred]

/-- The entries of an edit, one for each slot the statement names (R76). -/
theorem editRequest_eq (s : State) (steps : List SequenceStep) (first last : Nat) :
    s.editRequest steps first last = ((List.range (last + 1 - first)).map fun k => first + k).map fun j =>
      { slot := sequenceSlot s.bases s.config.layout s.recallUnit.level j, content := sequenceContent steps j,
        source := .sequence } := by
  rw [State.editRequest, List.map_map]
  rfl

theorem insertIdx_eq_take_drop {α : Type} {l : List α} {i : Nat} (x : α) (h : i ≤ l.length) :
    l.insertIdx i x = l.take i ++ x :: l.drop i := by
  obtain ⟨a, b, rfl, rfl, hinsert⟩ := List.exists_of_modifyTailIdx (List.cons x) h
  rw [List.insertIdx, hinsert, List.take_left, List.drop_left]

theorem insertStep_barred {s : State} (h : s.sequencer.steps.length = s.config.layout.steps ∨ s.editBarred = true) :
    insertStep s = refuse s :=
  if_pos (h.imp_left fun he => he.ge)

theorem insertStep_edit {s : State} (hok : levelsOk s)
    (h : ¬ (s.sequencer.steps.length = s.config.layout.steps ∨ s.editBarred = true)) : insertStep s =
      edit (s.sequencer.steps.take s.sequencer.cursor ++ s.insertedStep :: s.sequencer.steps.drop s.sequencer.cursor)
        (s.sequencer.cursor + 1) (s.sequencer.cursor / 16) (s.sequencer.steps.length / 16) s := by
  obtain ⟨-, -, hcursor, hlength⟩ := hok
  rw [insertStep, if_neg fun hb => h (hb.imp_left fun he => Nat.le_antisymm hlength he),
    insertIdx_eq_take_drop _ hcursor]

theorem deleteStep_barred {s : State} (h : s.sequencer.cursor = 0 ∨ s.editBarred = true) : deleteStep s = refuse s := if_pos h

theorem deleteStep_edit {s : State} (h : ¬ (s.sequencer.cursor = 0 ∨ s.editBarred = true)) : deleteStep s =
    edit (s.sequencer.steps.take (s.sequencer.cursor - 1) ++ s.sequencer.steps.drop s.sequencer.cursor)
      (s.sequencer.cursor - 1) ((s.sequencer.cursor - 1) / 16) ((s.sequencer.steps.length - 1) / 16) s := by
  have hcursor : s.sequencer.cursor - 1 + 1 = s.sequencer.cursor := Nat.succ_pred_eq_of_ne_zero fun h0 => h (.inl h0)
  rw [deleteStep, if_neg h, List.eraseIdx_eq_take_drop_succ, hcursor]

/-- Settles O36: an edit is barred, refused for want of room, or taken with its slots queued. -/
theorem sequencerEdits : Obligations.SequencerEdits := by
  unfold Obligations.SequencerEdits
  intro s n cursor first last c barred steps hs hheld hok hpress u slot named refused
  have hu : u.station = .awake := hs
  have hset : u.setIsHeld = true := by simpa [u] using hheld
  have hpressed : (barred ∨ u.editBarred = true → exec c s = .next (refuse u))
      ∧ (¬ (barred ∨ u.editBarred = true) → exec c s = .next (edit steps cursor first last u))
      ∧ u.overrideActive = s.overrideActive := by
    rcases hpress with ⟨hf, rfl, rfl, rfl, rfl, rfl, hbarred⟩ | ⟨hf, rfl, rfl, rfl, rfl, rfl, hbarred⟩
    · have hexec : exec (.sequencerNext n) s = .next (insertStep u) := by
        rw [exec, execSequencerNext, lineEvent_pressed hf rfl hs, handPress, pressNext, if_pos hu, if_pos hset]
      rw [hexec, hbarred]
      exact ⟨fun h => by rw [insertStep_barred h], fun h => by rw [insertStep_edit (s := u) hok h]; rfl,
        atLine_overrideActive hf (by simp)⟩
    · have hexec : exec (.sequencerPrevious n) s = .next (deleteStep u) := by
        rw [exec, execSequencerPrevious, lineEvent_pressed hf rfl hs, handPress, pressPrevious, if_pos hu, if_pos hset]
      rw [hexec, hbarred]
      exact ⟨fun h => by rw [deleteStep_barred h], fun h => by rw [deleteStep_edit h]; rfl,
        atLine_overrideActive hf (by simp)⟩
  obtain ⟨hbar, hedit, hoverride⟩ := hpressed
  have hslots : (u.editRequest steps first last).map (·.slot) = named.map slot := by
    rw [editRequest_eq, List.map_map]
    rfl
  have hrefused : refused ↔ (barred ∨ u.editBarred = true) ∨ ¬ roomFor u ((u.editRequest steps first last).map (·.slot)) := by
    rw [editBarred_iff, hoverride, hslots, or_assoc]
    rfl
  by_cases hb : barred ∨ u.editBarred = true
  · exact ⟨fun _ => hbar hb, fun h => absurd (hrefused.2 (.inl hb)) h⟩
  · rw [hedit hb]
    by_cases hroom : roomFor u ((u.editRequest steps first last).map (·.slot))
    · refine ⟨fun h => absurd ((hrefused.1 h).resolve_left hb) (not_not.2 hroom), fun _ => ?_⟩
      rw [edit_taken u _ _ _ _ (by simp [hu]) hroom, editRequest_eq]
      rfl
    · exact ⟨fun _ => by rw [edit_refused u _ _ _ _ hroom]; rfl, fun h => absurd (hrefused.2 (.inr hroom)) h⟩

/-! ### Levels and protection (R22, R23, R39, R40, R69) -/

/-- A level change, its list named by the state it leaves (R23, R69). -/
theorem changeLevel_loaded (level : Nat) (s : State) : changeLevel level s =
    { afterReads (s.sequenceSlots level) s with
      recallUnit := { s.recallUnit with level := level, live := none, snapshot := none }
      sequencer := { steps := (changeLevel level s).storedSteps level, cursor := 0 } } := by
  have hsteps : (changeLevel level s).storedSteps level = s.storedSteps level := by
    rw [changeLevel_eq, afterReads_eq]
    rfl
  rw [hsteps, changeLevel_eq]

/-- A level press in Awake: a level change, or at the limit the local event alone (R22, R45). -/
theorem exec_levelPress {s : State} {n level : Nat} {c : Instr} {limit : Prop} (hs : s.station = .awake)
    (h : (s.functionOfLine n = .levelUp ∧ c = .levelUp n ∧ level = s.recallUnit.level + 1
        ∧ (limit ↔ s.config.layout.levels ≤ s.recallUnit.level))
      ∨ (s.functionOfLine n = .levelDown ∧ c = .levelDown n ∧ level = s.recallUnit.level - 1
        ∧ (limit ↔ s.recallUnit.level ≤ 1))) :
    (limit → exec c s = .next (atEvent s n true))
      ∧ (¬ limit → exec c s = .next (changeLevel level (atEvent s n true))) := by
  have hu : (atLine s n true).station = .awake := hs
  rcases h with ⟨hf, rfl, rfl, hlimit⟩ | ⟨hf, rfl, rfl, hlimit⟩
  · rw [exec, execLevelUp, lineEvent_pressed hf rfl hs, handPress, pressLevelUp, if_pos hu, hlimit]
    exact ⟨fun h => by rw [if_neg (by exact Nat.not_lt.2 h)]; rfl, fun h => by rw [if_pos (by exact Nat.not_le.1 h)]; rfl⟩
  · rw [exec, execLevelDown, lineEvent_pressed hf rfl hs, handPress, pressLevelDown, if_pos hu, hlimit]
    exact ⟨fun h => by rw [if_neg (by exact Nat.not_lt.2 h)]; rfl, fun h => by rw [if_pos (by exact Nat.not_le.1 h)]; rfl⟩

theorem qualified_iff (s : State) (n : Nat) :
    s.qualified n = true ↔ ∃ l, s.scanner.lines[n]? = some l ∧ l.qualified = true := by
  unfold State.qualified
  split <;> simp_all

/-- Some line that carries f is active, line by line (R40, R129). -/
theorem anyActive_iff (s : State) (f : LineFunction) : s.anyActive f = true ↔ lineActive s f := by
  simp only [State.anyActive, List.any_eq_true, List.mem_range, Bool.and_eq_true, beq_iff_eq, qualified_iff]
  constructor
  · rintro ⟨n, hn, hf, l, hl, hq⟩
    rw [State.functionOfLine, List.getElem?_eq_getElem hn] at hf
    exact ⟨n, _, l, List.getElem?_eq_getElem hn, hf, hl, hq⟩
  · rintro ⟨n, e, l, he, hf, hl, hq⟩
    exact ⟨n, (List.getElem?_eq_some_iff.1 he).1, by rw [State.functionOfLine, he]; exact hf, l, hl, hq⟩

/-- A Protect press that is given the override and finds room (R39). -/
theorem pressProtect_taken {s : State} (hs : s.station = .awake) (ho : s.overrideActive = true) (hroom : roomFor s [28]) :
    let flags := toggled s.recallUnit.protection s.recallUnit.level
    pressProtect s = { s with
      memory := written s [{ slot := 28, content := protectionContent s.config.layout.levels flags, source := .protection }]
      recallUnit := { s.recallUnit with protection := flags } } := by
  simp only [pressProtect]
  rw [if_pos hs, if_pos ho, writeRequest_taken s (by simp [hs]) (by exact hroom)]
  rfl

theorem pressProtect_refused {s : State} (hs : s.station = .awake) (h : ¬(s.overrideActive = true ∧ roomFor s [28])) :
    pressProtect s = refuse s := by
  simp only [pressProtect, hs, if_true]
  split
  · rename_i ho
    rw [writeRequest_refused s (by exact fun hroom => h ⟨ho, hroom⟩)]
  · rfl

/-! ### Lamp answers (R44) -/

/-- A lamp's own meaning does not look at the answers. -/
theorem lampLit_answers (s : State) (a : List Answer) (l : Lamp) : ({ s with answers := a } : State).lampLit l = s.lampLit l := by
  cases l <;> rfl

theorem lamp_of_answer {s : State} {l : Lamp} {a : Answer} (h : s.answers.find? (fun a => a.lamp == l) = some a) :
    s.lamp l = .blinking a.blinks := by
  simp only [State.lamp, h]

/-- Where no answer runs on it a lamp shows its meaning. -/
theorem lamp_of_meaning {s : State} {l : Lamp} (h : ∀ a ∈ s.answers, a.lamp ≠ l) :
    s.lamp l = if s.lampLit l = true then .lit else .dark := by
  have hfind : s.answers.find? (fun a => a.lamp == l) = none := by simpa using h
  simp only [State.lamp, hfind]

/-- A lamp whose answers are as they were shows what it showed. -/
theorem lamp_congr {s : State} {a : List Answer} {l : Lamp}
    (h : a.find? (fun a => a.lamp == l) = s.answers.find? fun a => a.lamp == l) :
    ({ s with answers := a } : State).lamp l = s.lamp l := by
  simp only [State.lamp, h, lampLit_answers]

/-- Dropping the answers of one lamp leaves those of another. -/
theorem find?_otherLamp {k l : Lamp} (h : k ≠ l) (as : List Answer) :
    (as.filter fun a => a.lamp != l).find? (fun a => a.lamp == k) = as.find? fun a => a.lamp == k := by
  rw [List.find?_filter]
  congr 1
  funext a
  by_cases hk : a.lamp = k <;> simp [hk, h]

theorem find?_answered_self (s : State) (l : Lamp) (n : Nat) :
    (answered s l n).find? (fun a => a.lamp == l) = some { lamp := l, blinks := n, ms := 0 } := by
  rw [answered, List.find?_append, List.find?_eq_none.2 (by simp)]
  simp

theorem find?_answered_other (s : State) {k l : Lamp} (h : k ≠ l) (n : Nat) :
    (answered s l n).find? (fun a => a.lamp == k) = s.answers.find? fun a => a.lamp == k := by
  rw [answered, List.find?_append, find?_otherLamp h]
  simp [Ne.symm h]

/-! ### The indicators (R42, R43, R98 to R100, R161) -/

/-- Two fault sets meet where some kind stands in both (R161). -/
theorem meet_iff (x y : FaultSet) : (x &&& y != 0#16) = true ↔ ∃ n, x.getLsbD n = true ∧ y.getLsbD n = true := by
  rw [bne_iff_ne]
  constructor
  · intro hne
    by_contra hnone
    exact hne (BitVec.eq_of_getLsbD_eq fun n _ => by simpa using not_exists.1 hnone n)
  · rintro ⟨n, hx, hy⟩ hzero
    have hbit : (x &&& y).getLsbD n = true := by simp [hx, hy]
    simp [hzero] at hbit

/-- The peers in the union (R97). -/
theorem mem_unionPeers (s : State) (q : Peer) : q ∈ s.unionPeers ↔ inUnion s q := by
  simp [State.unionPeers, List.mem_filter, Peer.inUnion, inUnion, and_assoc]

/-- A running maximum is a bound of the list, and is its start or a member's figure. -/
theorem foldl_max_spec {α : Type} (f : α → Nat) (l : List α) (m : Nat) :
    m ≤ l.foldl (fun n x => max n (f x)) m ∧ (∀ x ∈ l, f x ≤ l.foldl (fun n x => max n (f x)) m)
      ∧ (l.foldl (fun n x => max n (f x)) m = m ∨ ∃ x ∈ l, f x = l.foldl (fun n x => max n (f x)) m) := by
  induction l generalizing m with
  | nil => simp
  | cons x l ih =>
    obtain ⟨hle, hall, hattained⟩ := ih (max m (f x))
    simp only [List.foldl_cons, List.mem_cons, forall_eq_or_imp, exists_eq_or_imp]
    refine ⟨by omega, ⟨by omega, hall⟩, ?_⟩
    rcases hattained with h | h
    · omega
    · exact .inr (.inr h)

/-- The greatest stage of the peers in the union, 0 where there is none (R99). -/
theorem peerStage_spec (s : State) : (∀ q, inUnion s q → q.contribution.stage ≤ s.peerStage)
    ∧ (s.peerStage = 0 ∨ ∃ q, inUnion s q ∧ q.contribution.stage = s.peerStage) := by
  obtain ⟨-, hall, hattained⟩ := foldl_max_spec (fun q : Peer => q.contribution.stage) s.unionPeers 0
  refine ⟨fun q hq => hall q ((mem_unionPeers s q).2 hq), hattained.imp_right ?_⟩
  rintro ⟨q, hq, he⟩
  exact ⟨q, (mem_unionPeers s q).1 hq, he⟩

theorem snapshotHolds_iff (s : State) (r : Record) : s.snapshotHolds r = true ↔
    ∀ d, d < s.divisionCount → r.scope.getLsbD d = true →
      s.drawn d = setAt r.sets d &&& definedIndices (s.config.controlsOf d) := by
  simp only [State.snapshotHolds, Configuration.divisionsIn, List.all_eq_true, List.mem_filter, List.mem_range, beq_iff_eq, and_imp]
  rfl

theorem litPiston_iff (s : State) (p : Piston) : s.litPiston = some p ↔
    ∃ l r, s.recallUnit.live = some (l, p) ∧ s.recallUnit.snapshot = some r ∧ s.snapshotHolds r = true := by
  unfold State.litPiston
  split
  · rename_i l q r hlive hsnap
    split <;> simp_all
  · rename_i h
    simp only [reduceCtorEq, false_iff]
    rintro ⟨l, r, hlive, hsnap, -⟩
    exact h l p r hlive hsnap

theorem mem_addedLamps (s : State) {d : Nat} (hd : d < 8) (i : Nat) : (setAt s.addedLamps d).getLsbD i = true ↔
    (setAt s.crescendo.effective d).getLsbD i = true ∧ (s.drawn d).getLsbD i = false
      ∧ (setAt s.config.sensed d).getLsbD i = true := by
  rw [State.addedLamps, setAt_setsOf _ hd]
  simp only [lessSet, BitVec.getLsbD_and, BitVec.getLsbD_not, Bool.and_eq_true, Bool.not_eq_true', decide_eq_true_eq, and_assoc]
  exact ⟨fun ⟨he, _, hn, hs⟩ => ⟨he, hn, hs⟩, fun ⟨he, hn, hs⟩ => ⟨he, BitVec.lt_of_getLsbD he, hn, hs⟩⟩

theorem tuttiLamp_iff (s : State) : s.tuttiLamp = true ↔
    (s.crescendo.tutti = true ∧ s.station = .awake) ∨ ∃ q, inUnion s q ∧ q.contribution.tutti = true := by
  simp [State.tuttiLamp, mem_unionPeers]

/-- The stage display shows the greatest stage in play, and a held one only as the station's own (R99; log entry 32). -/
theorem stageDisplay_spec (s : State) :
    (∀ q, inUnion s q → q.contribution.stage ≤ s.stageDisplay.1) ∧ (s.station = .awake → s.crescendo.stage ≤ s.stageDisplay.1)
      ∧ (s.stageDisplay.1 = 0 ∨ (∃ q, inUnion s q ∧ q.contribution.stage = s.stageDisplay.1)
        ∨ (s.station = .awake ∧ s.crescendo.stage = s.stageDisplay.1))
      ∧ (s.stageDisplay.2 = true ↔ s.station = .awake ∧ s.crescendo.held = true ∧ s.crescendo.stage = s.stageDisplay.1) := by
  obtain ⟨hall, hattained⟩ := peerStage_spec s
  unfold State.stageDisplay
  by_cases hs : s.station = .awake
  · rw [if_pos hs]
    refine ⟨fun q hq => (hall q hq).trans (le_max_right _ _), fun _ => le_max_left _ _, ?_, by simp [hs]⟩
    rcases le_total s.peerStage s.crescendo.stage with h | h
    · exact .inr (.inr ⟨hs, (max_eq_left h).symm⟩)
    · simp only [max_eq_right h]
      exact hattained.imp_right .inl
  · rw [if_neg hs]
    exact ⟨hall, fun h => absurd h hs, hattained.imp_right .inl, by simp [hs]⟩

/-- The meanings of the indicators are those of the manual (R42, R43, R77, R78, R98 to R100, R161). -/
theorem meaning_meant (s : State) : Meant s s.meaning where
  piston := fun p => by simp only [State.meaning, litPiston_iff, snapshotHolds_iff]
  set := rfl
  level := rfl
  protect := rfl
  sequencer := rfl
  sequencerEnd := by simp [State.meaning]
  added := fun d i hd => mem_addedLamps s hd i
  stage := ⟨s.stageDisplay.1, s.stageDisplay.2, rfl, stageDisplay_spec s⟩
  tutti := tuttiLamp_iff s
  program := rfl
  fault := meet_iff _ _
  faultLine := meet_iff _ _

/-- What the indicators show in each station state (R161, R164). -/
theorem panel_shows (s : State) :
    (s.station = .joining ∨ s.station = .awake ∨ s.station = .dormant → s.panel = s.meaning)
      ∧ (s.station = .unconfigured ∨ s.station = .service →
        s.panel = { darkPanel with fault := s.faultLamp, faultLine := s.faultLine })
      ∧ (s.station = .restarting ∨ s.station = .start → s.panel = s.held)
      ∧ (s.station = .off → s.panel = darkPanel) := by
  unfold State.panel
  cases s.station <;> simp

/-- The fixed routes put every kind in the Lamp and Line sets and none in the Notice set (R159). -/
theorem noConfiguration_routes (k : FaultKind) :
    noConfiguration.routes.lamp.getLsbD (faultCode k) = true ∧ noConfiguration.routes.line.getLsbD (faultCode k) = true
      ∧ noConfiguration.routes.notice.getLsbD (faultCode k) = false := by
  cases k <;> decide

/-- Settles O34: levels and protection by their presses, the indicators by their meanings in each station state, and the answers by
what runs on each lamp. -/
theorem levelsProtectionAndLampAnswers : Obligations.LevelsProtectionAndLampAnswers := by
  unfold Obligations.LevelsProtectionAndLampAnswers
  refine ⟨fun s n level c limit hs hpress => ?levels, fun s => anyActive_iff s _, fun s n hs hf => ?protect,
    fun s l => ?answerEnd, fun s => ?panel, fun s k hcfg => ?routes, fun s => ?lamps⟩
  case levels =>
    obtain ⟨hstays, hmoves⟩ := exec_levelPress hs hpress
    exact ⟨hstays, fun h => ⟨_, hmoves h, changeLevel_loaded level (atEvent s n true)⟩⟩
  case protect =>
    intro u flags
    have hu : u.station = .awake := hs
    have hexec : exec (.protect n) s = .next (pressProtect u) := by
      rw [exec, execProtect, lineEvent_pressed hf rfl hs, handPress]
    have hoverride : u.overrideActive = s.overrideActive := atLine_overrideActive hf (by simp)
    rw [hexec, ← hoverride]
    refine ⟨fun ⟨ho, hroom⟩ => ?_, fun h => ?_⟩
    · rw [pressProtect_taken hu ho hroom]
      rfl
    · rw [pressProtect_refused hu h]
      rfl
  case answerEnd =>
    refine ⟨_, rfl, rfl, ?_, fun k hk => lamp_congr (find?_otherLamp hk s.answers)⟩
    rw [lamp_of_meaning (by simp), State.setAnswers, lampLit_answers]
  case panel =>
    intro fault
    obtain ⟨hplay, hunplayed, hheld, hoff⟩ := panel_shows s
    refine ⟨fun h => ?_, fun h => ?_, fun h => hheld h, hoff⟩
    · rw [hplay h]
      exact meaning_meant s
    · rw [hunplayed h]
      exact ⟨rfl, meet_iff _ _, meet_iff _ _⟩
  case routes =>
    rw [State.config, hcfg]
    exact noConfiguration_routes k
  case lamps =>
    refine ⟨fun p => beq_iff_eq, rfl, rfl, fun l h => lamp_of_meaning h, fun l n => ⟨?_, fun k hk => ?_⟩⟩
    · exact lamp_of_answer (s := { s with answers := answered s l n }) (find?_answered_self s l n)
    · exact lamp_congr (find?_answered_other s hk n)

end Sys2Proof.Proofs
end

section
/-!
PROOFS. The statements about the combination memory: its array, its write queue and clear, the reads and writes of service, loss of
power and restarts, the supply conditions, and the records and figures that slots hold. First the direct ones from the laws of the
shared operations, then what every step keeps.
-/

namespace Sys2Proof.Proofs

open Sys2Proof Sys2Proof.Machine Sys2Proof.Safety

/-! ### Time (log entry 3) -/

/-- The stations of play, as one condition. -/
theorem ite_inPlay {α : Type} (st : Station) (x y : α) :
    (if st.inPlay = true then x else y) = if st = .joining ∨ st = .awake ∨ st = .dormant then x else y := by
  cases st <;> simp [Station.inPlay]

/-- The heartbeat timer rests in Start and Restarting alone, of the states with power (R146). -/
theorem ite_heartbeats {st : Station} (h : st ≠ .off) (n : Nat) :
    (if st.heartbeats = true then n + 1 else n) = if st = .start ∨ st = .restarting then n else n + 1 := by
  cases st <;> simp_all [Station.heartbeats]

/-- Settles O2: each timer by the states its rule has it run in. -/
theorem emptyQueueLetsOneMillisecondPass : Obligations.EmptyQueueLetsOneMillisecondPass := by
  unfold Obligations.EmptyQueueLetsOneMillisecondPass
  intro s hs
  rw [step, hs]
  dsimp only
  unfold tick
  split
  · rfl
  · rename_i hoff
    simp only [tickStart, tickMemory, ite_inPlay, ite_heartbeats hoff, hs]
    rfl

/-! ### Slot addresses (R49 to R53) -/

/-- A place within a block of so many, the block one of n, lies within the n blocks. -/
theorem block_place_lt {k n size place : Nat} (hk : 1 ≤ k) (hn : k ≤ n) (hp : place < size) :
    (k - 1) * size + place < n * size := by
  have : (k - 1 + 1) * size ≤ n * size := Nat.mul_le_mul_right size (by omega)
  rw [Nat.add_mul] at this
  omega

/-- The divisionals below division d and those of d itself are among all (R51). -/
theorem divisionalsBelow_add_le {l : List Nat} {d k : Nat} (h : l[d]? = some k) : (l.take d).sum + k ≤ l.sum := by
  have hsplit : (l.take (d + 1)).sum + (l.drop (d + 1)).sum = l.sum := by rw [← List.sum_append, List.take_append_drop]
  rw [List.take_add_one, h, List.sum_append, Option.toList_some, List.sum_singleton] at hsplit
  omega

/-- The figures of R49, as a layout that fits has them. -/
theorem fits_iff (l : Layout) :
    l.fits = true ↔ 32 + l.levels * l.size + l.levels * l.sequenceSlots + (4 * l.stages + 1) ≤ 16384 :=
  decide_eq_true_iff

/-- The sequence region of a layout that fits ends where the crescendo region begins (R49). -/
theorem partitionOf_regions {l : Layout} (h : l.fits = true) :
    (partitionOf l).levelTop ≤ (partitionOf l).seqBase
      ∧ (partitionOf l).seqBase + l.levels * l.sequenceSlots = (partitionOf l).cresBase
      ∧ (partitionOf l).cresBase + 4 * l.stages = 16383 := by
  rw [fits_iff] at h
  simp only [partitionOf, Config.slotCount]
  omega

/-- The slot of a general lies in the level region (R51). -/
theorem pistonSlot_general_inRegion {l : Layout} {level g : Nat} (h1 : 1 ≤ level) (h2 : level ≤ l.levels) (h3 : 1 ≤ g)
    (h4 : g ≤ l.generals) :
    (partitionOf l).levelBase ≤ pistonSlot (partitionOf l) l level (.general g)
      ∧ pistonSlot (partitionOf l) l level (.general g) < (partitionOf l).levelTop := by
  have := block_place_lt (size := l.size) (place := g - 1) h1 h2 (by simp only [Layout.size]; omega)
  simp only [pistonSlot, partitionOf]
  omega

/-- The slot of a divisional lies in the level region (R51). -/
theorem pistonSlot_divisional_inRegion {l : Layout} {level d n k : Nat} (h1 : 1 ≤ level) (h2 : level ≤ l.levels)
    (hk : l.divisionals[d]? = some k) (h3 : 1 ≤ n) (h4 : n ≤ k) :
    (partitionOf l).levelBase ≤ pistonSlot (partitionOf l) l level (.divisional d n)
      ∧ pistonSlot (partitionOf l) l level (.divisional d n) < (partitionOf l).levelTop := by
  have hbelow := divisionalsBelow_add_le hk
  have := block_place_lt (size := l.size) (place := l.generals + l.divisionalsBelow d + (n - 1)) h1 h2
    (by simp only [Layout.size, Layout.divisionalsBelow]; omega)
  simp only [pistonSlot, partitionOf]
  omega

/-- A sequence slot of a level lies in the sequence region (R52). -/
theorem sequenceSlot_inRegion {l : Layout} (hfits : l.fits = true) {level j : Nat} (h1 : 1 ≤ level) (h2 : level ≤ l.levels)
    (h3 : j < l.sequenceSlots) :
    (partitionOf l).seqBase ≤ sequenceSlot (partitionOf l) l level j
      ∧ sequenceSlot (partitionOf l) l level j < (partitionOf l).cresBase := by
  have := block_place_lt h1 h2 h3
  have := partitionOf_regions hfits
  simp only [sequenceSlot]
  omega

/-- The slot of a stage lies in the crescendo region, below the tutti record (R53). -/
theorem stageSlot_inRegion {l : Layout} (hfits : l.fits = true) {program k : Nat} (h1 : program ≤ 3) (h2 : 1 ≤ k)
    (h3 : k ≤ l.stages) :
    (partitionOf l).cresBase ≤ stageSlot (partitionOf l) l program k ∧ stageSlot (partitionOf l) l program k < 16383 := by
  have := block_place_lt (k := program + 1) (n := 4) (size := l.stages) (place := k - 1) (by omega) (by omega) (by omega)
  have := partitionOf_regions hfits
  simp only [stageSlot, Nat.add_sub_cancel] at *
  omega

/-- Settles O49: the regions from the figures of R49, each slot as a place in one of so many blocks of equal size. -/
theorem slotAddressesKeepToTheirRegions : Obligations.SlotAddressesKeepToTheirRegions := by
  unfold Obligations.SlotAddressesKeepToTheirRegions
  intro l _ hfits p
  obtain ⟨htop, hseq, hcres⟩ := partitionOf_regions hfits
  exact ⟨rfl, hseq, rfl, rfl, htop, fun _ _ => pistonSlot_general_inRegion, fun _ _ _ _ => pistonSlot_divisional_inRegion,
    fun _ _ h1 h2 h3 => sequenceSlot_inRegion hfits h1 h2 h3, fun _ _ h1 h2 h3 => stageSlot_inRegion hfits h1 h2 h3, hcres,
    fun _ _ => rfl, fun _ _ _ => rfl, fun _ _ => rfl, fun _ _ => rfl⟩

/-! ### Loss of power and Restarting -/

/-- A slot that a loss of power tore fails its check (R46). -/
theorem failing_passes (old : SlotImage) (new c : Content) (e : BitVec 16) :
    SlotImage.passes (tornSlot old new (.failing c e)) = false := by
  have hne : (if e = 0#16 then 1#16 else e) ≠ 0#16 := by split <;> simp_all
  simp only [SlotImage.passes, tornSlot, slotWithCheck_content, slotWithCheck_check, beq_eq_false_iff_ne, ne_eq]
  intro h
  exact hne (by simpa using congrArg (crc (Content.bytes c) ^^^ ·) h.symm)

/-- Settles O20: the torn slot by the three cases of R46. -/
theorem lossOfPowerKeepsTheArrayAlone : Obligations.LossOfPowerKeepsTheArrayAlone := by
  unfold Obligations.LossOfPowerKeepsTheArrayAlone
  refine ⟨fun s torn hs hwf => ⟨_, by rw [exec, execLossOfPower, if_neg hs], rfl, fun a ha => ?other, fun f hf => ?torn⟩,
    fun s torn hs => by rw [exec, execLossOfPower, if_pos hs]⟩
  case other =>
    show Memory.read (cellsAfterLoss torn s.memory) a = _
    unfold cellsAfterLoss
    split
    · exact read_writeSlotImage_other _ _ (ha _ ‹_›)
    · rfl
  case torn =>
    have hcells : cellsAfterLoss torn s.memory
        = writeSlotImage s.memory.cells f.slot (tornSlot (readSlotImage s.memory.cells f.slot) f.content torn) := by
      rw [cellsAfterLoss, hf]
    have hread := readSlotImage_writeSlotImage hwf f.slot (tornSlot (readSlotImage s.memory.cells f.slot) f.content torn)
    rw [← hcells] at hread
    cases torn with
    | old => exact hread
    | new => exact hread
    | failing c e =>
      show arrayContent (cellsAfterLoss (.failing c e) s.memory) f.slot = none
      rw [arrayContent, hread, if_neg (by simp [failing_passes])]

theorem exec_restart {s : State} {o target : Nat} (h : heard s o (.restart target)) :
    exec (.restart o target) s = .next (ifTarget target (enterRestarting .restartFrame) (frameTaken s)) := by
  rw [exec, execRestart, receive_heard s h]
  rfl

/-- Settles O24: the entry by `enterRestarting_entered`, after the line or the frame was taken. -/
theorem restartsEnterRestarting : Obligations.RestartsEnterRestarting := by
  unfold Obligations.RestartsEnterRestarting
  have hpress : ∀ s : State, s.station ≠ .off →
      exec .restartLinePress s = .next (enterRestarting .restartLine { s with scanner := restartPressed s }) := fun s hs => by
    rw [exec, execRestartLinePress, if_neg hs]
    rfl
  have hagain : ∀ (cause : StartCause) (s : State), s.station = .restarting → enterRestarting cause s = s := fun _ s h => by
    rw [enterRestarting, if_pos (.inr h)]
  refine ⟨fun s hoff hnot => ?line, fun s hr => ?lineAgain, fun s o hh hnot => ?frame, fun s o target hh hnone => ?frameAgain⟩
  case line =>
    intro u
    rw [hpress s hoff, enterRestarting_entered u _ hoff hnot]
  case lineAgain => rw [hpress s (by simp [hr]), hagain _ { s with scanner := restartPressed s } hr]
  case frame =>
    rw [exec_restart hh, ifTarget, if_pos (show s.link.number = (frameTaken s).link.number from rfl),
      enterRestarting_entered (frameTaken s) _ hh.1.1 hnot]
  case frameAgain =>
    rw [exec_restart hh, ifTarget]
    split
    · rename_i htarget
      rw [hagain _ (frameTaken s) (hnone.resolve_left (not_not.2 htarget))]
    · rfl

/-! ### The retention refresh (R62, R63) -/

theorem refreshMayBegin_iff (s : State) : s.refreshMayBegin = true ↔
    (s.station = .joining ∨ s.station = .awake ∨ s.station = .dormant) ∧ 2000 ≤ s.memory.idle
      ∧ s.memory.queue = [] ∧ s.memory.flight = none ∧ s.supply.low2 = false ∧ s.memory.clear = none := by
  have hidle : s.memory.idleReady = true ↔ 2000 ≤ s.memory.idle := decide_eq_true_iff
  simp [State.refreshMayBegin, hidle, inPlay_iff, and_assoc]

/-- The retention pointer's next slot (R63). -/
theorem next_retention {n : Nat} (h : n < 16384) : (n + 1) % Config.slotCount = if n = 16383 then 0 else n + 1 := by
  simp only [Config.slotCount]
  split <;> omega

/-- Settles O48: the timer by the station state, the refresh by the conditions and the slot's check. -/
theorem retentionRefresh : Obligations.RetentionRefresh := by
  unfold Obligations.RetentionRefresh
  refine ⟨fun s h => ?ready, fun s h => ?rests, fun s => ⟨fun h => ?stands, fun h hslot => ?refreshes⟩⟩
  case ready => rw [exec, execIdleReady, if_pos ((inPlay_iff s).2 h)]; rfl
  case rests => rw [exec, execIdleReady, if_neg (mt (inPlay_iff s).1 h)]
  case stands => rw [exec, execRetentionRefreshWrite, if_neg (mt (refreshMayBegin_iff s).1 h)]
  case refreshes =>
    rw [exec, execRetentionRefreshWrite, if_pos ((refreshMayBegin_iff s).2 h), if_pos (show s.memory.retention < Config.slotCount from hslot),
      refreshSlot]
    cases arrayContent s.memory.cells s.memory.retention with
    | some c => rfl
    | none => rw [refreshWith, latch_reported, advanceRetention, next_retention hslot]; rfl

/-! ### Service requests (R66, R169) -/

/-- A request that reaches the station is handed to the Start Controller where it names this station (R144). -/
theorem exec_request {s : State} {o : Nat} {f : Frame} (h : heard s o f) :
    exec (frameCommand o f) s = .next (dispatch o f (frameTaken s)) := by
  rw [exec_frameCommand, receive_heard s h]

theorem ifTarget_own (f : State → State) (s : State) : ifTarget s.link.number f (frameTaken s) = f (frameTaken s) :=
  if_pos rfl

theorem ifTarget_foreign {s : State} {target : Nat} (f : State → State) (h : target ≠ s.link.number) :
    ifTarget target f (frameTaken s) = frameTaken s := if_neg h

/-- The answer to a Configuration read (R55, R66). -/
theorem serviceRead_eq (n : Nat) (s : State) : serviceRead n s =
    if 31 < n then replied s 8 n .outOfRange none
    else match newest s.memory n with
      | some c => replied s 8 n .content (some c)
      | none => replied (reported .memoryCheck s) 8 n .failedCheck none := by
  unfold serviceRead
  rw [reply_replied, latch_reported]
  split
  · rfl
  · cases newest s.memory n with
    | some c => exact reply_replied s _ _ _ _
    | none => exact reply_replied _ _ _ _ _

/-- A service write is refused outside Service, out of range and where the queue is full, and taken otherwise (R57, R66). -/
theorem serviceWrite_eq (request limit n : Nat) (x : Content) (s : State) :
    (s.station ≠ .service → serviceWrite request limit n x s = replied s request n .notInService none)
      ∧ (s.station = .service → limit < n → serviceWrite request limit n x s = replied s request n .outOfRange none)
      ∧ (s.station = .service → n ≤ limit → ¬ roomFor s [n] →
          serviceWrite request limit n x s = replied s request n .queueFull none)
      ∧ (s.station = .service → n ≤ limit → roomFor s [n] →
          serviceWrite request limit n x s
            = { s with memory := written s [{ slot := n, content := x, source := .service request }] }) := by
  unfold serviceWrite
  refine ⟨fun h => ?_, fun h hn => ?_, fun h hn hroom => ?_, fun h hn hroom => ?_⟩
  · rw [if_neg h, reply_replied]
  · rw [if_pos h, if_pos hn, reply_replied]
  · rw [if_pos h, if_neg (by omega), writeRequest_refused s (r := [{ slot := n, content := x, source := .service request }]) hroom]
    exact reply_replied s _ _ _ _
  · rw [if_pos h, if_neg (by omega), writeRequest_taken s (r := [{ slot := n, content := x, source := .service request }]) (by simp [h]) hroom]

/-- Settles O58: each request by the block's own equation, after the frame's end. -/
theorem serviceReadsAndWrites : Obligations.ServiceReadsAndWrites := by
  unfold Obligations.ServiceReadsAndWrites
  refine ⟨⟨fun s o n h => ?read, fun s o target n x f hf h hforeign => ?foreign⟩,
    fun s o n request limit x f h hf => ?write⟩
  case read =>
    show exec (frameCommand o (.configurationRead s.link.number n)) s = _
    rw [exec_request h, dispatch, ifTarget_own, serviceRead_eq]
    rfl
  case foreign =>
    rw [exec_request h]
    simp only [List.mem_cons, List.not_mem_nil, or_false] at hf
    rcases hf with rfl | rfl | rfl | rfl <;> rw [dispatch, ifTarget_foreign _ hforeign]
  case write =>
    intro u
    have hexec : exec (frameCommand o f) s = .next (serviceWrite request limit n x u) := by
      rw [exec_request h]
      rcases hf with ⟨rfl, rfl, rfl⟩ | ⟨rfl, rfl, rfl⟩
      · rw [dispatch, ifTarget_own]
      · rw [dispatch, ifTarget_own]
        rfl
    obtain ⟨hstate, hrange, hfull, htaken⟩ := serviceWrite_eq request limit n x u
    rw [hexec]
    exact ⟨fun hs => congrArg _ (hstate hs), fun hs hn => congrArg _ (hrange hs hn),
      fun hs hn hroom => congrArg _ (hfull hs hn hroom), fun hs hn hroom => congrArg _ (htaken hs hn hroom)⟩

/-! ### The memory clear (R64, R65) -/

/-- A clear is taken where none runs or waits, slots 1, 30 and 31 pass and the layout is in range and fits (R64). -/
theorem clearRequest_taken {m : MemoryController} {c1 c30 c31 : Content} (hnone : m.clear = none) (h1 : newest m 1 = some c1)
    (h30 : newest m 30 = some c30) (h31 : newest m 31 = some c31) (hl : layoutOk (layoutOf c1) = true)
    (hf : (layoutOf c1).fits = true) :
    clearRequest m = some {
      layout := layoutOf c1, partition := partitionOf (layoutOf c1), scope := Content.byte c30 0
      before := m.queue.length, next := 0 } := by
  simp only [clearRequest, hnone, h1, h30, h31, hl, hf, Bool.and_self, if_true]

/-- A clear is refused where one of its conditions fails (R64). -/
theorem clearRequest_refused {m : MemoryController}
    (h : m.clear ≠ none ∨ newest m 1 = none ∨ newest m 30 = none ∨ newest m 31 = none
      ∨ ∃ c1, newest m 1 = some c1 ∧ ¬(layoutOk (layoutOf c1) = true ∧ (layoutOf c1).fits = true)) :
    clearRequest m = none := by
  unfold clearRequest
  split
  · rename_i c1 c30 c31 hclear h1 h30 h31
    have hlayout : ¬(layoutOk (layoutOf c1) = true ∧ (layoutOf c1).fits = true) := by simpa [hclear, h1, h30, h31] using h
    exact if_neg (by simpa using hlayout)
  · rfl

/-- Settles O59: the request is judged after the slots it reads were noted. -/
theorem memoryClearIsTakenOrRefused : Obligations.MemoryClearIsTakenOrRefused := by
  unfold Obligations.MemoryClearIsTakenOrRefused
  intro s o h u v
  have hexec : exec (.memoryClear o s.link.number) s = .next (serviceClear u) := by
    show exec (frameCommand o (.memoryClear s.link.number)) s = _
    rw [exec_request h, dispatch, ifTarget_own]
  have hnoted : (if u.memory.clear.isNone then noteReads [1, 30, 31] u else u) = v := by
    simp only [noteReads_afterReads, Option.isNone_iff_eq_none, v]
    rfl
  rw [hexec]
  refine ⟨fun hs => ?state, fun c1 c30 c31 hs hnone h1 h30 h31 hl hf => ?taken, fun hs hbad => ?refused⟩
  case state => rw [serviceClear, if_neg (show u.station ≠ .service from hs), reply_replied]
  case taken =>
    intro l
    have hv : v = u := by
      simp only [v, if_pos hnone, afterReads]
      exact if_neg (by simp [failing, u, frameTaken, h1, h30, h31])
    have hreq := clearRequest_taken (m := u.memory) hnone h1 h30 h31 hl hf
    simp only [serviceClear, if_pos (show u.station = .service from hs), hnoted, hv, hreq, reply_replied, beginWrite_begun]
    rfl
  case refused =>
    have hreq : clearRequest u.memory = none := clearRequest_refused hbad
    simp only [serviceClear, if_pos (show u.station = .service from hs), hnoted, hreq, reply_replied]

/-! ### Commands that stop (log entry 25) -/

/-- The commands that can stop: a readback and a refresh write (R46, R59, R63). -/
def writesSlot : Instr → Bool
  | .writeReadback _ | .retentionRefreshWrite => true
  | _ => false

/-- Every other command answers a next state. -/
theorem exec_next {c : Instr} (s : State) (h : writesSlot c = false) : ∃ t, exec c s = .next t := by
  cases c with
  | writeReadback found => cases h
  | retentionRefreshWrite => cases h
  | pulseEnd d i =>
    simp only [exec, execPulseEnd]
    repeat' split
    all_goals exact ⟨_, rfl⟩
  | settleEnd d i =>
    simp only [exec, execSettleEnd]
    repeat' split
    all_goals exact ⟨_, rfl⟩
  | peerSilent n =>
    simp only [exec, execPeerSilent]
    repeat' split
    all_goals exact ⟨_, rfl⟩
  | peerAbsent n =>
    simp only [exec, execPeerAbsent]
    repeat' split
    all_goals exact ⟨_, rfl⟩
  | _ => exact ⟨_, rfl⟩

/-- A readback without a write in flight ends none (log entry 4). -/
theorem exec_writeReadback_none {s : State} (h : s.memory.flight = none) (found : Option SlotImage) :
    exec (.writeReadback found) s = .next s := by
  simp only [exec, execWriteReadback, h]

/-- A readback settles the write in flight where the array has its slot, and stops where not (log entry 25). -/
theorem exec_writeReadback_flight {s : State} {f : Flight} (h : s.memory.flight = some f) (found : Option SlotImage) :
    exec (.writeReadback found) s
      = if f.slot < Config.slotCount then .next (readback found f s) else .fault (.slotOutsideArray f.slot) := by
  simp only [exec, execWriteReadback, h]

/-- Command c would write slot n: it ends the write in flight of it, or begins the refresh of it. -/
def WritesSlot (c : Instr) (s : State) (n : Nat) : Prop :=
  (∃ found f, c = .writeReadback found ∧ s.memory.flight = some f ∧ f.slot = n)
    ∨ (c = .retentionRefreshWrite ∧ s.refreshMayBegin = true ∧ s.memory.retention = n)

/-- A command stops where it would write a slot that the array has not (log entry 25). -/
theorem exec_fault {c : Instr} {s : State} {n : Nat} (h : WritesSlot c s n) (hn : 16384 ≤ n) :
    exec c s = .fault (.slotOutsideArray n) := by
  have hout : ¬ n < Config.slotCount := by simpa [Config.slotCount] using hn
  rcases h with ⟨found, f, rfl, hf, rfl⟩ | ⟨rfl, hmay, rfl⟩
  · rw [exec_writeReadback_flight hf, if_neg hout]
  · rw [exec, execRetentionRefreshWrite, if_pos hmay, if_neg hout]

/-- Every command answers a next state, or stops at the slot it would write (log entry 25). -/
theorem exec_next_or_fault (c : Instr) (s : State) :
    (∃ t, exec c s = .next t) ∨ ∃ n, 16384 ≤ n ∧ WritesSlot c s n ∧ exec c s = .fault (.slotOutsideArray n) := by
  cases hc : writesSlot c with
  | false => exact .inl (exec_next s hc)
  | true =>
    have hslot : (∃ t, exec c s = .next t) ∨ ∃ n, 16384 ≤ n ∧ WritesSlot c s n := by
      cases c with
      | writeReadback found =>
        cases hf : s.memory.flight with
        | none => exact .inl ⟨s, exec_writeReadback_none hf found⟩
        | some f =>
          by_cases hn : f.slot < Config.slotCount
          · exact .inl ⟨_, by rw [exec_writeReadback_flight hf, if_pos hn]⟩
          · exact .inr ⟨f.slot, Nat.le_of_not_lt hn, .inl ⟨found, f, rfl, hf, rfl⟩⟩
      | retentionRefreshWrite =>
        by_cases hmay : s.refreshMayBegin = true
        · by_cases hn : s.memory.retention < Config.slotCount
          · exact .inl ⟨_, by rw [exec, execRetentionRefreshWrite, if_pos hmay, if_pos hn]⟩
          · exact .inr ⟨_, Nat.le_of_not_lt hn, .inr ⟨rfl, hmay, rfl⟩⟩
        · exact .inl ⟨s, by rw [exec, execRetentionRefreshWrite, if_neg hmay]⟩
      | _ => cases hc
    exact hslot.imp_right fun ⟨n, hn, hw⟩ => ⟨n, hn, hw, exec_fault hw hn⟩

/-- A station whose writes keep to their regions writes no slot that the array has not (R49). -/
theorem WritesSlot.lt {c : Instr} {s : State} {n : Nat} (h : WritesSlot c s n) (hs : regionsOk s) : n < 16384 := by
  obtain ⟨-, -, hflight, hretention, -⟩ := hs
  rcases h with ⟨found, f, -, hf, rfl⟩ | ⟨-, -, rfl⟩
  · exact hflight f hf
  · exact hretention

/-- Settles O4: the commands that write a slot stop by it, the rest answer a next state. -/
theorem commandsStopOnlyOutsideTheArray : Obligations.CommandsStopOnlyOutsideTheArray := by
  unfold Obligations.CommandsStopOnlyOutsideTheArray
  refine ⟨fun c s => ⟨fun r hr => ?refused, fun n => ⟨fun hf => ?stopped, fun ⟨hn, hw⟩ => exec_fault hw hn⟩⟩,
    fun s hs => ?runs⟩
  case refused => rcases exec_next_or_fault c s with ⟨t, ht⟩ | ⟨k, -, -, hk⟩ <;> simp_all
  case stopped =>
    rcases exec_next_or_fault c s with ⟨t, ht⟩ | ⟨k, hk, hw, hfault⟩
    · cases ht.symm.trans hf
    · cases hfault.symm.trans hf
      exact ⟨hk, hw⟩
  case runs =>
    unfold step
    split
    · rename_i c rest hpending
      refine (exec_next_or_fault c (s.setPending rest)).resolve_right fun ⟨n, hn, hw, _⟩ => ?_
      have := WritesSlot.lt (s := s) hw hs
      omega
    · exact ⟨_, rfl⟩

/-! ### Settling a write (R59, R63, R65) -/

/-- The memory once its write in flight, of a kind, was settled (R59, R63, R65). -/
def settledBy : FlightKind → MemoryController → MemoryController
  | .queue, m =>
    { m with queue := m.queue.tail, flight := none, clear := m.clear.map fun c => { c with before := c.before - 1 } }
  | .refresh, m => advanceRetention { m with flight := none }
  | .clear, m =>
    { m with
      flight := none
      clearSettled := m.clearSettled + 1
      clear := m.clear.bind fun c => if c.next + 1 < m.clearTotal then some { c with next := c.next + 1 } else none }

/-- The link once a write of a kind was settled: the reply to a service write is handed (R66, R169). -/
def settledLink (k : FlightKind) (done : Bool) (s : State) : Link :=
  match k, s.memory.queue with
  | .queue, { slot, content := _, source := .service request } :: _ =>
    (replied s request slot (if done = true then .done else .failed) none).link
  | _, _ => s.link

/-- A write is settled: the memory follows its kind, and a service write is answered (R59, R66). -/
theorem settle_eq (k : FlightKind) (done : Bool) (s : State) :
    settle k done s = { s with memory := settledBy k s.memory, link := settledLink k done s } := by
  cases k with
  | refresh => rfl
  | clear => rfl
  | queue =>
    simp only [settle, settleEntry, settledLink]
    cases hq : s.memory.queue with
    | nil => simp [settledBy, hq, State.setMemory]
    | cons e rest =>
      obtain ⟨slot, content, source⟩ := e
      cases source with
      | service request =>
        simp only [settlementReply, handOver_routine _ (.serviceReply request slot _ none) rfl]
        simp only [settledBy, hq, List.tail_cons, State.setMemory]
        rfl
      | _ => simp [settlementReply, settledBy, hq, State.setMemory]

/-- A write of a kind is settled in an array of so many cells, the next begins, and in Restarting an end of the queue is reported
(R58, R59, R61). -/
def afterSettled (k : FlightKind) (done : Bool) (cells : Memory) (s : State) : State :=
  { s with
    memory := { begun s.supply.low2 (settledBy k s.memory) with cells := cells }
    start := { s.start with drained :=
      if s.station = .restarting ∧ (begun s.supply.low2 (settledBy k s.memory)).queue = []
          ∧ (begun s.supply.low2 (settledBy k s.memory)).flight = none
      then true else s.start.drained }
    link := settledLink k done s }

/-- The cells play no part in what is settled and what begins. -/
theorem begun_settledBy_cells (low2 : Bool) (k : FlightKind) (cells : Memory) (m : MemoryController) :
    begun low2 (settledBy k { m with cells := cells }) = { begun low2 (settledBy k m) with cells := cells } := by
  cases k <;> rfl

theorem reportDrained_settle (k : FlightKind) (done : Bool) (cells : Memory) (s : State) :
    reportDrained (beginWrite (settle k done (s.setMemory { s.memory with cells := cells }))) = afterSettled k done cells s := by
  rw [settle_eq, beginWrite_begun, afterSettled]
  simp only [State.setMemory, begun_settledBy_cells]
  ext1
  all_goals simp [reportDrained_start]
  rfl

/-- The notices of a readback: a slot that fails its check, and a write that failed (R47, R59). -/
def readbackNoted (passes failed : Bool) (s : State) : State :=
  latchIf failed .memoryWrite (latchIf (!passes) .memoryCheck s)

theorem latchIf_setMemory (b : Bool) (k : FaultKind) (s : State) (m : MemoryController) :
    latchIf b k (s.setMemory m) = (latchIf b k s).setMemory m := by
  simp only [latchIf_reported]
  cases b <;> rfl

theorem latch_setMemory (k : FaultKind) (s : State) (m : MemoryController) :
    latch k (s.setMemory m) = (latch k s).setMemory m :=
  latchIf_setMemory true k s m

/-- A readback by its outcomes: settled, done or failed, or rewritten (R59). -/
theorem judgeReadback_eq (x : SlotImage) (passes asWritten : Bool) (f : Flight) (s : State) :
    judgeReadback x passes asWritten f s =
      if asWritten = true ∨ f.rewrite = true then
        afterSettled f.kind asWritten (writeSlotImage s.memory.cells f.slot x) (readbackNoted passes (!asWritten) s)
      else { readbackNoted passes false s with
        memory := { s.memory with
          cells := writeSlotImage s.memory.cells f.slot x, flight := some { f with rewrite := true, ms := 0 } } } := by
  unfold judgeReadback
  generalize writeSlotImage s.memory.cells f.slot x = cells
  have hsettled : ∀ (k : FlightKind) (done : Bool) (u : State), u.memory = s.memory →
      reportDrained (beginWrite (settle k done (u.setMemory { s.memory with cells := cells }))) = afterSettled k done cells u :=
    fun k done u hu => hu ▸ reportDrained_settle k done cells u
  have hchecked : (latchIf (!passes) .memoryCheck s).memory = s.memory := by simp
  have hfailed : (latch .memoryWrite (latchIf (!passes) .memoryCheck s)).memory = s.memory := by simp
  simp only [latchIf_setMemory, latch_setMemory]
  cases asWritten with
  | true => exact (hsettled _ _ _ hchecked).trans (by simp [readbackNoted, latchIf])
  | false =>
    cases hr : f.rewrite with
    | true => exact (hsettled _ _ _ hfailed).trans (by simp [readbackNoted, latchIf])
    | false => rfl

/-- A write in flight that is read back (log entry 8). -/
theorem exec_writeReadback {s : State} {f : Flight} (hf : s.memory.flight = some f) (hslot : f.slot < 16384)
    (found : Option SlotImage) : exec (.writeReadback found) s = .next (readback found f s) := by
  simp only [exec, execWriteReadback, hf]
  exact if_pos hslot

/-- Settles O47: the array by the slot laws, the outcomes by `judgeReadback_eq`, the settled write by its kind. -/
theorem readbackSettlesTheWrite : Obligations.ReadbackSettlesTheWrite := by
  unfold Obligations.ReadbackSettlesTheWrite
  refine ⟨fun s found f hf hslot hwf => ?flight, fun s found hf => by simp only [exec, execWriteReadback, hf]⟩
  intro x a b
  have hread : readback found f s = judgeReadback x (SlotImage.passes x) (x == slotOf f.content) f s := rfl
  rw [exec_writeReadback hf hslot, hread, judgeReadback_eq]
  have ha : latchIf (!SlotImage.passes x) .memoryCheck s = a := by
    simp only [latchIf_reported, a]
    cases SlotImage.passes x <;> rfl
  have hholds := readSlotImage_writeSlotImage hwf f.slot x
  have hothers : ∀ n, n < 64 * f.slot ∨ 64 * f.slot + 64 ≤ n →
      Memory.read (writeSlotImage s.memory.cells f.slot x) n = Memory.read s.memory.cells n :=
    fun n hn => read_writeSlotImage_other _ _ hn
  generalize writeSlotImage s.memory.cells f.slot x = cells at hholds hothers ⊢
  by_cases h : x = slotOf f.content ∨ f.rewrite = true
  · rw [if_pos (by simpa using h)]
    have hb : readbackNoted (SlotImage.passes x) (!(x == slotOf f.content)) s = b := by
      rw [readbackNoted, ha, latchIf_reported]
      by_cases hx : x = slotOf f.content
      · simp [hx, b]
      · simp [hx, b, h.resolve_left hx]
    rw [hb]
    obtain ⟨hmemory, hstation, hsupply, hstart⟩ :
        b.memory = s.memory ∧ b.station = s.station ∧ b.supply = s.supply ∧ b.start = s.start := by
      rw [← hb]
      simp [readbackNoted]
    refine ⟨_, rfl, hholds, hothers, fun hx hr => absurd h (by simp [hx, hr]), fun _ => ?_⟩
    intro settled hret
    have hkind : settledBy f.kind s.memory = { settled with flight := none } := by
      cases hk : f.kind <;> simp only [settled, hk, settledBy, advanceRetention, next_retention hret, Nat.reduceEqDiff]
    rw [← hkind]
    simp only [afterSettled, settledLink, hmemory, hstation, hsupply, hstart, beq_iff_eq] <;> rfl
  · obtain ⟨hx, hr⟩ := not_or.1 h
    rw [if_neg (by simpa using h)]
    refine ⟨_, rfl, hholds, hothers, fun _ _ => ?_, fun h' => absurd h' h⟩
    simp only [readbackNoted, ha]
    rfl

/-! ### The supply conditions (R61, R114, R156, R157) -/

/-- A supply condition's entry is reported where the condition was released: the faults and the link alone change (R156, R158). -/
def entryReported (was : Bool) (k : FaultKind) (s : State) : State :=
  { s with
    faults := (if was = false then reported k s else s).faults
    link := (if was = false then reported k s else s).link }

theorem ite_reported (was : Bool) (k : FaultKind) (s : State) :
    (if was = false then reported k s else s) = entryReported was k s := by
  cases was <;> rfl

theorem entryReported_supply (was : Bool) (k : FaultKind) (s : State) (v : Supply) :
    entryReported was k (s.setSupply v) = (entryReported was k s).setSupply v := by
  cases was <;> rfl

/-- Low1 stands after its entry (R156). -/
theorem enterLow1_eq (s : State) :
    enterLow1 s = (entryReported s.supply.low1 .supplyLow1 s).setSupply { s.supply with low1 := true } := by
  unfold enterLow1
  rw [← ite_reported]
  cases h : s.supply.low1 with
  | true =>
    simp only [if_true, Bool.true_eq_false, if_false]
    rw [← h]
    rfl
  | false =>
    rw [if_neg Bool.false_ne_true, if_pos rfl, latch_reported]
    rfl

/-- The memory once Low2 has come into force: in Restarting the writes not yet begun are discarded (R61). -/
def lowMemory (s : State) : MemoryController :=
  if s.supply.low2 = false ∧ s.station = .restarting then { s.memory with queue := s.memory.queue.take s.memory.begun }
  else s.memory

/-- The writes not yet begun are discarded where Low2 is in force in Restarting (R61). -/
theorem discardWaiting_eq (s : State) :
    discardWaiting s = { s with memory :=
      if s.station = .restarting ∧ s.supply.low2 = true then { s.memory with queue := s.memory.queue.take s.memory.begun }
      else s.memory } := by
  unfold discardWaiting
  split <;> rfl

/-- The drained report, said of the whole state (R61). -/
theorem reportDrained_eq (s : State) :
    reportDrained s = { s with start := { s.start with drained :=
      if s.station = .restarting ∧ s.memory.queue = [] ∧ s.memory.flight = none then true else s.start.drained } } := by
  unfold reportDrained
  split <;> rfl

/-- Low2 stands after its entry; in Restarting an end of the queue is reported (R61, R156). -/
theorem enterLow2_eq (s : State) :
    enterLow2 s = { entryReported s.supply.low2 .supplyLow2 s with
      supply := { s.supply with low2 := true }
      memory := lowMemory s
      start := { s.start with drained :=
        if s.supply.low2 = false ∧ s.station = .restarting ∧ (lowMemory s).queue = [] ∧ (lowMemory s).flight = none then true
        else s.start.drained } } := by
  unfold enterLow2 lowMemory
  rw [← ite_reported]
  cases h : s.supply.low2 with
  | true =>
    simp only [if_true, Bool.true_eq_false, if_false, false_and]
    rw [← h]
  | false =>
    have hreported : reported .supplyLow2 (s.setSupply { s.supply with low2 := true })
        = (reported .supplyLow2 s).setSupply { s.supply with low2 := true } := rfl
    rw [if_neg Bool.false_ne_true, if_pos rfl, latch_reported, hreported, reportDrained_eq, discardWaiting_eq]
    simp only [State.setSupply_supply, and_true, true_and]
    rfl

/-- Low2 is released: pulses and writes begin where it stood (R114, R157). -/
theorem releaseLow2_eq (s : State) :
    releaseLow2 s = { s with
      supply := { s.supply with low2 := false }
      motion := if s.supply.low2 = true then judged { s with supply := { s.supply with low2 := false } } s.motion else s.motion
      memory := if s.supply.low2 = true then begun false s.memory else s.memory } := by
  unfold releaseLow2
  cases h : s.supply.low2 with
  | false =>
    simp only [Bool.false_eq_true, if_false]
    rw [← h]
  | true =>
    rw [if_pos rfl, if_pos rfl, if_pos rfl, beginWrite_begun, judgePulses_judged]
    rfl

/-- Low1 is released: pulses start where it stood (R114, R157). -/
theorem releaseLow1_eq (s : State) :
    releaseLow1 s = { s with
      supply := { s.supply with low1 := false }
      motion := if s.supply.low1 = true then judged { s with supply := { s.supply with low1 := false } } s.motion
        else s.motion } := by
  unfold releaseLow1
  cases h : s.supply.low1 with
  | false =>
    simp only [Bool.false_eq_true, if_false]
    rw [← h]
  | true =>
    rw [if_pos rfl, if_pos rfl, judgePulses_judged]
    rfl

/-- Each supply command, its threshold crossed, compares the supply with all four (R156; log entry 9). -/
theorem exec_supply {s : State} {mv : Nat} {c : Instr}
    (hc : (c = .low1Entry mv ∧ mv < 10500) ∨ (c = .low1Release mv ∧ 11000 < mv) ∨ (c = .low2Entry mv ∧ mv < 9000)
      ∨ (c = .low2Release mv ∧ 9500 < mv)) :
    exec c s = .next (if s.station = .off then s else compareSupply mv s) := by
  have hevent : ∀ crossed : Bool, crossed = true →
      supplyEvent crossed mv s = if s.station = .off then s else compareSupply mv s := fun crossed h => by
    rw [supplyEvent, h]
    by_cases hoff : s.station = .off <;> simp [hoff]
  rcases hc with ⟨rfl, h⟩ | ⟨rfl, h⟩ | ⟨rfl, h⟩ | ⟨rfl, h⟩
  all_goals exact congrArg _ (hevent _ (decide_eq_true h))

/-- Settles O45: the four comparisons by the five ranges of the voltage. -/
theorem supplyCommandsJudgeBothConditions : Obligations.SupplyCommandsJudgeBothConditions := by
  unfold Obligations.SupplyCommandsJudgeBothConditions
  intro s mv c hc low1 low2 e f entered released discarded first
  rw [exec_supply hc]
  refine ⟨fun hs => ?_, fun hs => by rw [if_pos hs]⟩
  rw [if_neg hs]
  congr 1
  have hranges : mv < 9000 ∨ (9000 ≤ mv ∧ mv ≤ 9500) ∨ (9500 < mv ∧ mv < 10500) ∨ (10500 ≤ mv ∧ mv ≤ 11000) ∨ 11000 < mv := by
    omega
  simp only [compareSupply, Config.low1Entry, Config.low2Entry, Config.low2Release, Config.low1Release]
  rcases hranges with h | ⟨h, h'⟩ | ⟨h, h'⟩ | ⟨h, h'⟩ | h
  · have h1 : mv < 10500 := by omega
    have h3 : ¬ 9500 < mv := by omega
    have h4 : ¬ 11000 < mv := by omega
    simp only [low1, low2, e, f, entered, released, discarded, first, h, h1, h3, h4, if_true, if_false, true_and, false_and,
      enterLow2_eq, enterLow1_eq, entryReported_supply, ite_reported]
    rfl
  · have h1 : mv < 10500 := by omega
    have h2 : ¬ mv < 9000 := by omega
    have h3 : ¬ 9500 < mv := by omega
    have h4 : ¬ 11000 < mv := by omega
    simp only [low1, low2, e, f, entered, released, discarded, first, h1, h2, h3, h4, if_true, if_false, true_and, false_and,
      enterLow1_eq, ite_reported]
    rfl
  · have h1 : mv < 10500 := by omega
    have h2 : ¬ mv < 9000 := by omega
    have h4 : ¬ 11000 < mv := by omega
    simp only [low1, low2, e, f, entered, released, discarded, first, h, h1, h2, h4, if_true, if_false, true_and, false_and,
      enterLow1_eq, releaseLow2_eq, ite_reported]
    rfl
  · have h1 : ¬ mv < 10500 := by omega
    have h2 : ¬ mv < 9000 := by omega
    have h3 : 9500 < mv := by omega
    have h4 : ¬ 11000 < mv := by omega
    simp only [low1, low2, e, f, entered, released, discarded, first, h1, h2, h3, h4, if_true, if_false, true_and, false_and,
      releaseLow2_eq, Bool.or_self]
  · have h1 : ¬ mv < 10500 := by omega
    have h2 : ¬ mv < 9000 := by omega
    have h3 : 9500 < mv := by omega
    simp only [low1, low2, e, f, entered, released, discarded, first, h, h1, h2, h3, if_true, if_false, true_and, false_and,
      releaseLow2_eq, releaseLow1_eq]
    rfl

/-! ### What an event can do to the memory controller (R46, R55 to R65) -/

/-- One move of the memory controller, Low2 standing as given, where a request is one of those asked for and a clear is taken in
Service alone: every event is made of these. -/
inductive MemoryMove (low2 : Bool) (asked : List WriteEntry → Prop) (service : Prop) (m : MemoryController) :
    MemoryController → Prop where
  | idled (n : Nat) : MemoryMove low2 asked service m { m with idle := n }
  | ticked : MemoryMove low2 asked service m { m with flight := m.flight.map fun f => { f with ms := f.ms + 1 } }
  | requested (r : List WriteEntry) : asked r → admits m r = true →
      MemoryMove low2 asked service m { m with queue := queueAfter m r }
  | judged : MemoryMove low2 asked service m (begun low2 m)
  | wrote (f : Flight) (x : SlotImage) : m.flight = some f →
      MemoryMove low2 asked service m { m with cells := writeSlotImage m.cells f.slot x }
  | rewritten (f : Flight) : m.flight = some f →
      MemoryMove low2 asked service m { m with flight := some { f with rewrite := true, ms := 0 } }
  | settled (f : Flight) : m.flight = some f → MemoryMove low2 asked service m (settledBy f.kind m)
  | refreshed (c : Content) : m.flight = none → low2 = false →
      MemoryMove low2 asked service m
        { m with flight := some { slot := m.retention, content := c, kind := .refresh, rewrite := false, ms := 0 } }
  | passedOver : MemoryMove low2 asked service m (advanceRetention m)
  | discarded : MemoryMove low2 asked service m { m with queue := m.queue.take m.begun }
  | dropped : MemoryMove low2 asked service m { m with clear := none }
  | cleared (c : Clear) : service → clearRequest m = some c →
      MemoryMove low2 asked service m
        { m with clear := some c, clearSettled := 0, clearTotal := clearTotalOf c.layout }

/-- Moves one after another. -/
abbrev MemoryMoves (low2 : Bool) (asked : List WriteEntry → Prop) (service : Prop) :
    MemoryController → MemoryController → Prop :=
  Relation.ReflTransGen (MemoryMove low2 asked service)

section MemoryMoves

variable {low2 : Bool} {asked : List WriteEntry → Prop} {service : Prop} {m n : MemoryController}

theorem MemoryMoves.one (h : MemoryMove low2 asked service m n) : MemoryMoves low2 asked service m n := .single h

/-- What every move keeps, moves one after another keep. -/
theorem MemoryMoves.keeps {P : MemoryController → Prop} (hP : ∀ m n, MemoryMove low2 asked service m n → P m → P n)
    (h : MemoryMoves low2 asked service m n) (hm : P m) : P n := by
  induction h with
  | refl => exact hm
  | tail _ hmove ih => exact hP _ _ hmove ih

theorem MemoryMoves.mono {asked' : List WriteEntry → Prop} {service' : Prop} (ha : ∀ r, asked r → asked' r)
    (hs : service → service') (h : MemoryMoves low2 asked service m n) : MemoryMoves low2 asked' service' m n := by
  refine Relation.ReflTransGen.mono (p := MemoryMove low2 asked' service') (fun m n hmove => ?_) m n h
  cases hmove with
  | idled k => exact .idled k
  | ticked => exact .ticked
  | requested r hr hadm => exact .requested r (ha r hr) hadm
  | judged => exact .judged
  | wrote f x hf => exact .wrote f x hf
  | rewritten f hf => exact .rewritten f hf
  | settled f hf => exact .settled f hf
  | refreshed c hf hl => exact .refreshed c hf hl
  | passedOver => exact .passedOver
  | discarded => exact .discarded
  | dropped => exact .dropped
  | cleared c hc hr => exact .cleared c (hs hc) hr

/-! ### The array's canonical form (R46) -/

@[simp] theorem advanceRetention_fields (m : MemoryController) :
    (advanceRetention m).cells = m.cells ∧ (advanceRetention m).partition = m.partition
      ∧ (advanceRetention m).queue = m.queue ∧ (advanceRetention m).flight = m.flight ∧ (advanceRetention m).clear = m.clear
      ∧ (advanceRetention m).clearTotal = m.clearTotal := ⟨rfl, rfl, rfl, rfl, rfl, rfl⟩

@[simp] theorem begun_fields (low2 : Bool) (m : MemoryController) :
    (begun low2 m).cells = m.cells ∧ (begun low2 m).partition = m.partition ∧ (begun low2 m).queue = m.queue
      ∧ (begun low2 m).retention = m.retention ∧ (begun low2 m).clear = m.clear
      ∧ (begun low2 m).clearTotal = m.clearTotal := ⟨rfl, rfl, rfl, rfl, rfl, rfl⟩

@[simp] theorem settledBy_cells (k : FlightKind) (m : MemoryController) : (settledBy k m).cells = m.cells := by cases k <;> rfl

theorem MemoryMove.wf (h : MemoryMove low2 asked service m n) (hm : Memory.wf m.cells = true) : Memory.wf n.cells = true := by
  cases h with
  | wrote f x hf =>
    have hwritten := writeSlotImage_wf hm f.slot x
    simpa only using hwritten
  | settled f hf => rwa [settledBy_cells]
  | judged => simpa using hm
  | passedOver => simpa using hm
  | idled | ticked | requested | rewritten | refreshed | discarded | dropped | cleared => exact hm

/-! ### The write queue's law (R56, R57) -/

/-- The queue has at most 32 entries, at most one waiting for a slot, and the entry being written is its head (R56). -/
def queueOk (m : MemoryController) : Prop :=
  m.queue.length ≤ Config.writeQueueEntries
    ∧ (m.waiting.map (·.slot)).Nodup
    ∧ ∀ f, m.flight = some f → f.kind = .queue → ∃ e rest, m.queue = e :: rest ∧ e.slot = f.slot ∧ e.content = f.content

theorem queueOk.congr (hm : queueOk m) (hq : n.queue = m.queue) (hf : n.flight = m.flight) : queueOk n := by
  simpa only [queueOk, MemoryController.waiting, MemoryController.begun, hq, hf] using hm

theorem writesOk_iff (s : State) : writesOk s ↔ queueOk s.memory := Iff.rfl

/-- The slots of waiting entries after a request of one entry was placed (R57). -/
theorem placeEntry_slots (w : List WriteEntry) (e : WriteEntry) :
    (placeEntry w e).map (·.slot) = if e.slot ∈ w.map (·.slot) then w.map (·.slot) else w.map (·.slot) ++ [e.slot] := by
  have hany : (w.any fun x => x.slot == e.slot) = true ↔ e.slot ∈ w.map (·.slot) := by simp
  unfold placeEntry
  by_cases h : e.slot ∈ w.map (·.slot)
  · rw [if_pos (hany.2 h), if_pos h, List.map_map]
    refine List.map_congr_left fun x _ => ?_
    by_cases hx : x.slot = e.slot <;> simp [hx]
  · rw [if_neg (fun ha => h (hany.1 ha)), if_neg h]
    simp

/-- A request keeps one entry at most for a slot (R56, R57). -/
theorem nodup_placeEntries (r w : List WriteEntry) (h : (w.map (·.slot)).Nodup) :
    ((r.foldl placeEntry w).map (·.slot)).Nodup := by
  induction r generalizing w with
  | nil => exact h
  | cons e r ih =>
    refine ih _ ?_
    rw [placeEntry_slots]
    split
    · exact h
    · rename_i hfree
      exact List.nodup_append'.2 ⟨h, by simp, by simpa using hfree⟩

/-- A request takes at most one entry for each of its slots that has none waiting (R57). -/
theorem length_placeEntries (r w : List WriteEntry) :
    (r.foldl placeEntry w).length ≤ w.length + (r.filter fun e => !w.any fun x => x.slot == e.slot).length := by
  induction r generalizing w with
  | nil => simp
  | cons e r ih =>
    have hlen : (placeEntry w e).length = if e.slot ∈ w.map (·.slot) then w.length else w.length + 1 := by
      have hslots := congrArg List.length (placeEntry_slots w e)
      rw [apply_ite List.length] at hslots
      simpa only [List.length_map, List.length_append, List.length_singleton] using hslots
    have hmono : (r.filter fun x => !(placeEntry w e).any fun y => y.slot == x.slot).length
        ≤ (r.filter fun x => !w.any fun y => y.slot == x.slot).length := by
      refine (List.monotone_filter_right r fun x hx => ?_).length_le
      have hsub : ∀ n, n ∈ w.map (·.slot) → n ∈ (placeEntry w e).map (·.slot) := fun n hn => by
        rw [placeEntry_slots]
        split
        · exact hn
        · exact List.mem_append_left _ hn
      have hany : ∀ (l : List WriteEntry) (n : Nat), (l.any fun y => y.slot == n) = true ↔ n ∈ l.map (·.slot) := by simp
      rw [Bool.not_eq_true', ← Bool.not_eq_true, hany] at hx ⊢
      exact fun hn => hx (hsub _ hn)
    have := ih (placeEntry w e)
    rw [List.foldl_cons, List.filter_cons]
    by_cases he : e.slot ∈ w.map (·.slot)
    · have hany : (w.any fun x => x.slot == e.slot) = true := by simpa using he
      simp only [hany, if_pos he] at hlen ⊢
      simp only [Bool.not_true, Bool.false_eq_true, if_false]
      omega
    · have hany : (w.any fun x => x.slot == e.slot) = false := by simpa using he
      simp only [hany, if_neg he] at hlen ⊢
      simp only [Bool.not_false, if_true, List.length_cons]
      omega

/-- The entries whose write has begun. -/
theorem begun_of_flight {f : Flight} (h : m.flight = some f) : m.begun = if f.kind = .queue then 1 else 0 := by
  simp only [MemoryController.begun, h]

theorem begun_of_queue {f : Flight} (h : m.flight = some f) (hk : f.kind = .queue) : m.begun = 1 := by
  rw [begun_of_flight h, if_pos hk]

theorem begun_of_none (h : m.flight = none) : m.begun = 0 := by simp only [MemoryController.begun, h]

theorem begun_le_one (m : MemoryController) : m.begun ≤ 1 := by
  unfold MemoryController.begun
  repeat' split
  all_goals omega

/-- The write in flight that a judgement leaves: as it was, or the next where none was and Low2 is released (R58, R65). -/
theorem begun_flight_cases (low2 : Bool) (m : MemoryController) :
    begun low2 m = m ∨ (m.flight = none ∧ low2 = false ∧ begun low2 m = { m with flight := nextWrite m }) := by
  unfold begun
  split
  · exact .inr ⟨(‹_ ∧ _›).1, (‹_ ∧ _›).2, rfl⟩
  · exact .inl rfl

/-- The next write is a slot of a clear that runs, or the head of the queue (R58, R65). -/
theorem nextWrite_cases {f : Flight} (h : nextWrite m = some f) :
    (∃ c, m.clear = some c ∧ f.slot = clearSlot c c.next ∧ f.kind = .clear)
      ∨ ∃ e rest, m.queue = e :: rest ∧ e.slot = f.slot ∧ e.content = f.content ∧ f.kind = .queue := by
  have hhead : headWrite m.queue = some f →
      ∃ e rest, m.queue = e :: rest ∧ e.slot = f.slot ∧ e.content = f.content ∧ f.kind = .queue := fun hq => by
    unfold headWrite at hq
    cases hl : m.queue with
    | nil => simp [hl] at hq
    | cons e rest =>
      simp only [hl, List.head?_cons, Option.map_some, Option.some.injEq] at hq
      subst hq
      exact ⟨e, rest, rfl, rfl, rfl, rfl⟩
  unfold nextWrite at h
  split at h
  · rename_i c hc
    split at h
    · cases h
      exact .inl ⟨c, hc, rfl, rfl⟩
    · exact .inr (hhead h)
  · exact .inr (hhead h)

/-- Judging the conditions of a write keeps the queue's law: what begins from the queue is its head (R56, R58). -/
theorem queueOk_begun (low2 : Bool) (hm : queueOk m) : queueOk (begun low2 m) := by
  rcases begun_flight_cases low2 m with he | ⟨hf, -, he⟩
  · rwa [he]
  · obtain ⟨hlen, hnodup, -⟩ := hm
    rw [MemoryController.waiting, begun_of_none hf, List.drop_zero] at hnodup
    rw [he]
    refine ⟨hlen, ?_, fun f hfl hk => ?_⟩
    · exact hnodup.sublist ((List.drop_sublist _ _).map _)
    · rcases nextWrite_cases hfl with ⟨c, -, -, hkind⟩ | ⟨e, rest, hq, hs, hc, -⟩
      · simp [hkind] at hk
      · exact ⟨e, rest, hq, hs, hc⟩

/-- A request that the queue admits keeps its law (R56, R57). -/
theorem queueOk_requested {r : List WriteEntry} (hadm : admits m r = true) (hm : queueOk m) :
    queueOk { m with queue := queueAfter m r } := by
  obtain ⟨hlen, hnodup, hhead⟩ := hm
  have hbegun : m.begun ≤ m.queue.length := by
    unfold MemoryController.begun
    split
    · rename_i f hf
      split
      · obtain ⟨e, rest, hq, -⟩ := hhead f hf ‹_›
        simp [hq]
      · omega
    · omega
  have htake : (m.queue.take m.begun).length = m.begun := by simp [hbegun]
  have hwaiting : ({ m with queue := queueAfter m r } : MemoryController).waiting = r.foldl placeEntry m.waiting :=
    List.drop_left' htake
  refine ⟨?_, ?_, fun f hf hk => ?_⟩
  · have h1 := length_placeEntries r m.waiting
    simp only [admits, decide_eq_true_eq] at hadm
    change (r.filter fun e => !m.waiting.any fun x => x.slot == e.slot).length + _ ≤ _ at hadm
    have h2 : m.waiting.length = m.queue.length - m.begun := List.length_drop
    change (queueAfter m r).length ≤ _
    rw [queueAfter, List.length_append, htake]
    omega
  · rw [hwaiting]
    exact nodup_placeEntries r _ hnodup
  · obtain ⟨e, rest, hq, he⟩ := hhead f hf hk
    refine ⟨e, r.foldl placeEntry m.waiting, ?_, he⟩
    simp [queueAfter, begun_of_queue (m := m) hf hk, hq]

/-- Settling the write in flight keeps the queue's law: a settled entry was the head (R56, R59). -/
theorem queueOk_settledBy {f : Flight} (hf : m.flight = some f) (hm : queueOk m) : queueOk (settledBy f.kind m) := by
  obtain ⟨hlen, hnodup, hhead⟩ := hm
  have hb := begun_of_flight hf
  rw [MemoryController.waiting] at hnodup
  cases hk : f.kind with
  | queue =>
    rw [hb, hk, if_pos rfl, List.drop_one] at hnodup
    exact ⟨le_trans (by simp [settledBy]) hlen, hnodup, fun g hg => by simp [settledBy] at hg⟩
  | refresh =>
    rw [hb, hk, if_neg (by simp)] at hnodup
    exact ⟨hlen, hnodup, fun g hg => by simp [settledBy, advanceRetention] at hg⟩
  | clear =>
    rw [hb, hk, if_neg (by simp)] at hnodup
    exact ⟨hlen, hnodup, fun g hg => by simp [settledBy] at hg⟩

/-- A write in flight of the same slot, content and kind leaves the queue's law as it is (R56). -/
theorem queueOk_flight {f g : Flight} (hf : m.flight = some f) (hslot : g.slot = f.slot) (hcontent : g.content = f.content)
    (hkind : g.kind = f.kind) (hm : queueOk m) : queueOk { m with flight := some g } := by
  obtain ⟨hlen, hnodup, hhead⟩ := hm
  refine ⟨hlen, ?_, fun f' hf' hk => ?_⟩
  · have hb : ({ m with flight := some g } : MemoryController).begun = m.begun := by
      rw [begun_of_flight hf, begun_of_flight rfl, hkind]
    rw [MemoryController.waiting, hb]
    exact hnodup
  · cases hf'
    rw [hslot, hcontent]
    exact hhead f hf (hkind ▸ hk)

theorem MemoryMove.keeps_queueOk (h : MemoryMove low2 asked service m n) (hm : queueOk m) : queueOk n := by
  cases h with
  | ticked =>
    cases hf : m.flight with
    | none => rwa [Option.map_none, ← hf]
    | some f => exact queueOk_flight hf rfl rfl rfl hm
  | requested r _ hadm => exact queueOk_requested hadm hm
  | judged => exact queueOk_begun low2 hm
  | rewritten f hf => exact queueOk_flight hf rfl rfl rfl hm
  | settled f hf => exact queueOk_settledBy hf hm
  | refreshed c hf =>
    obtain ⟨hlen, hnodup, -⟩ := hm
    rw [MemoryController.waiting, begun_of_none hf] at hnodup
    exact ⟨hlen, hnodup, fun f hf' hk => by cases hf'; cases hk⟩
  | discarded =>
    obtain ⟨hlen, hnodup, hhead⟩ := hm
    refine ⟨(List.length_take_le' _ _).trans hlen, ?_, fun f hf hk => ?_⟩
    · have : ({ m with queue := m.queue.take m.begun } : MemoryController).waiting = [] :=
        List.drop_eq_nil_of_le (List.length_take_le _ _)
      simp [this]
    · obtain ⟨e, rest, hq, he⟩ := hhead f hf hk
      exact ⟨e, [], by simp [begun_of_queue (m := m) hf hk, hq], he⟩
  | idled | wrote | passedOver | dropped | cleared => exact hm.congr rfl rfl

/-! ### Slots of the writes (R49, R63, R65) -/

/-- A clear's slot k stands among slots 28 and 29, then in the level region, then in the sequence and crescendo regions (R65). -/
theorem clearSlot_eq {c : Clear} (hp : c.partition = partitionOf c.layout) (k : Nat) :
    clearSlot c k =
      if k < 2 then 28 + k
      else if k < 2 + c.layout.levels * c.layout.size then 30 + k
      else 16384 - (4 * c.layout.stages + 1) - c.layout.levels * c.layout.sequenceSlots + (k - 2 - c.layout.levels * c.layout.size) := by
  unfold clearSlot
  rw [hp]
  simp only [partitionOf, Config.slotCount, Config.protectionSlot]
  repeat' split
  all_goals omega

/-- Every slot of a clear lies in the array (R49, R65). -/
theorem clearSlot_lt {c : Clear} (hfits : c.layout.fits = true) (hp : c.partition = partitionOf c.layout) {k : Nat}
    (hk : k < clearTotalOf c.layout) : clearSlot c k < 16384 := by
  rw [clearSlot_eq hp]
  rw [fits_iff] at hfits
  unfold clearTotalOf at hk
  repeat' split
  all_goals omega

/-- Every queued write stands in its region, and it, the write in flight and the retention pointer in the array; a clear goes
through its own partition (R49, R63 to R65). -/
def placesOk (p : Partition) (m : MemoryController) : Prop :=
  (∀ e ∈ m.queue, inRegion p e ∧ e.slot < Config.slotCount) ∧ (∀ f, m.flight = some f → f.slot < Config.slotCount)
    ∧ m.retention < Config.slotCount ∧ clearOk m

theorem placesOk.congr {p : Partition} (hm : placesOk p m) (hq : n.queue = m.queue) (hf : n.flight = m.flight)
    (hr : n.retention = m.retention) (hc : n.clear = m.clear) (ht : n.clearTotal = m.clearTotal) : placesOk p n := by
  simpa only [placesOk, clearOk, hq, hf, hr, hc, ht] using hm

/-- The entries of a request stand in their regions (R49). -/
def requestOk (p : Partition) (r : List WriteEntry) : Prop := ∀ e ∈ r, inRegion p e ∧ e.slot < Config.slotCount

theorem mem_placeEntry {w : List WriteEntry} {e x : WriteEntry} (h : x ∈ placeEntry w e) : x = e ∨ x ∈ w := by
  unfold placeEntry at h
  split at h
  · obtain ⟨y, hy, rfl⟩ := List.mem_map.1 h
    split
    · exact .inl rfl
    · exact .inr hy
  · simpa [or_comm] using h

theorem mem_placeEntries {r w : List WriteEntry} {x : WriteEntry} (h : x ∈ r.foldl placeEntry w) : x ∈ r ∨ x ∈ w := by
  induction r generalizing w with
  | nil => exact .inr h
  | cons e r ih =>
    rcases ih h with h | h
    · exact .inl (List.mem_cons_of_mem _ h)
    · rcases mem_placeEntry h with rfl | h
      · exact .inl (by simp)
      · exact .inr h

/-- What waits after a request is of the request, or waited before it (R57). -/
theorem mem_queueAfter {r : List WriteEntry} {x : WriteEntry} (h : x ∈ queueAfter m r) : x ∈ r ∨ x ∈ m.queue := by
  rcases List.mem_append.1 h with h | h
  · exact .inr (List.mem_of_mem_take h)
  · exact (mem_placeEntries h).imp_right List.mem_of_mem_drop

/-- The clear that a request takes goes through a partition of its own (R64). -/
theorem clearOk_of_clearRequest {c : Clear} (h : clearRequest m = some c) :
    clearOk { m with clear := some c, clearSettled := 0, clearTotal := clearTotalOf c.layout } := by
  intro c' hc'
  obtain rfl := Option.some.inj hc'
  unfold clearRequest at h
  split at h
  · rename_i c1 c30 _ _ _ _ _
    dsimp only at h
    split at h
    · rename_i hok
      rw [Bool.and_eq_true] at hok
      cases h
      refine ⟨hok.1, hok.2, ?_, rfl, rfl, ?_⟩
      · simp [layoutOf]
      · simp only [clearTotalOf]
        omega
    · cases h
  · cases h

/-- Judging the conditions of a write keeps the writes in their places: what begins is a slot of a clear or a queued one. -/
theorem placesOk_begun {p : Partition} (low2 : Bool) (hm : placesOk p m) : placesOk p (begun low2 m) := by
  obtain ⟨hqueue, hflight, hretention, hclear⟩ := hm
  refine ⟨hqueue, fun f hf => ?_, hretention, hclear⟩
  rcases begun_flight_cases low2 m with he | ⟨-, -, he⟩
  · exact hflight f (by rwa [he] at hf)
  · rw [he] at hf
    rcases nextWrite_cases hf with ⟨c, hc, hslot, -⟩ | ⟨e, rest, hq, hslot, -, -⟩
    · obtain ⟨-, hfits, -, hp, htotal, hnext⟩ := hclear c hc
      rw [hslot]
      exact clearSlot_lt hfits hp (htotal ▸ hnext)
    · rw [← hslot]
      exact (hqueue e (by simp [hq])).2

/-- Settling a write keeps the others in their places. -/
theorem placesOk_settledBy {p : Partition} (k : FlightKind) (hm : placesOk p m) : placesOk p (settledBy k m) := by
  obtain ⟨hqueue, -, hretention, hclear⟩ := hm
  cases k with
  | queue =>
    refine ⟨fun e he => hqueue e (List.mem_of_mem_tail he), fun f hf => by simp [settledBy] at hf, hretention, fun c hc => ?_⟩
    obtain ⟨c', hc', rfl⟩ := Option.map_eq_some_iff.1 hc
    exact hclear c' hc'
  | refresh =>
    refine ⟨hqueue, fun f hf => by simp [settledBy] at hf, Nat.mod_lt _ (by simp [Config.slotCount]), fun c hc => ?_⟩
    exact hclear c hc
  | clear =>
    refine ⟨hqueue, fun f hf => by simp [settledBy] at hf, hretention, fun c hc => ?_⟩
    obtain ⟨c', hc', hnext⟩ := Option.bind_eq_some_iff.1 hc
    obtain ⟨h1, h2, h3, h4, h5, -⟩ := hclear c' hc'
    split at hnext
    · cases hnext
      exact ⟨h1, h2, h3, h4, h5, ‹_›⟩
    · cases hnext

theorem MemoryMove.keeps_placesOk {p : Partition} (hasked : ∀ r, asked r → requestOk p r)
    (h : MemoryMove low2 asked service m n) (hm : placesOk p m) : placesOk p n := by
  cases h with
  | judged => exact placesOk_begun low2 hm
  | settled f hf => exact placesOk_settledBy f.kind hm
  | requested r hr hadm =>
    obtain ⟨hqueue, hrest⟩ := hm
    exact ⟨fun e he => (mem_queueAfter he).elim (hasked r hr e) (hqueue e), hrest⟩
  | ticked =>
    obtain ⟨hqueue, hflight, hrest⟩ := hm
    refine ⟨hqueue, fun f hf => ?_, hrest⟩
    obtain ⟨g, hg, rfl⟩ := Option.map_eq_some_iff.1 hf
    exact hflight g hg
  | rewritten f hf =>
    obtain ⟨hqueue, hflight, hrest⟩ := hm
    exact ⟨hqueue, fun g hg => by cases hg; exact hflight f hf, hrest⟩
  | refreshed c hf hl =>
    obtain ⟨hqueue, hflight, hretention, hclear⟩ := hm
    exact ⟨hqueue, fun g hg => by cases hg; exact hretention, hretention, hclear⟩
  | passedOver =>
    obtain ⟨hqueue, hflight, -, hclear⟩ := hm
    exact ⟨hqueue, hflight, Nat.mod_lt _ (by simp [Config.slotCount]), hclear⟩
  | discarded =>
    obtain ⟨hqueue, hrest⟩ := hm
    exact ⟨fun e he => hqueue e (List.mem_of_mem_take he), hrest⟩
  | dropped =>
    obtain ⟨hqueue, hflight, hretention, -⟩ := hm
    exact ⟨hqueue, hflight, hretention, fun c hc => by cases hc⟩
  | cleared c hc hr =>
    obtain ⟨hqueue, hflight, hretention, -⟩ := hm
    exact ⟨hqueue, hflight, hretention, clearOk_of_clearRequest hr⟩
  | idled | wrote => exact hm.congr rfl rfl rfl rfl rfl

/-! ### What moves leave alone -/

@[simp] theorem settledBy_partition (k : FlightKind) (m : MemoryController) : (settledBy k m).partition = m.partition := by
  cases k <;> rfl

/-- Where no request is asked for, an empty queue stays empty. -/
theorem MemoryMove.keeps_empty (hasked : ∀ r, ¬ asked r) (h : MemoryMove low2 asked service m n) (hm : m.queue = []) :
    n.queue = [] := by
  cases h with
  | requested r hr => exact absurd hr (hasked r)
  | settled f hf => cases f.kind <;> simp [settledBy, hm]
  | discarded => simp [hm]
  | judged | passedOver => simpa using hm
  | idled | ticked | wrote | rewritten | refreshed | dropped | cleared => exact hm

/-- Outside Service no clear appears. -/
theorem MemoryMove.keeps_clear_none (hservice : ¬ service) (h : MemoryMove low2 asked service m n) (hm : m.clear = none) :
    n.clear = none := by
  cases h with
  | settled f hf => cases f.kind <;> simp [settledBy, hm]
  | cleared c hc => exact absurd hc hservice
  | judged | passedOver => simpa using hm
  | dropped => rfl
  | idled | ticked | wrote | rewritten | refreshed | requested | discarded => exact hm

/-- The write in flight in n is one in flight in m. -/
def SameFlight (m n : MemoryController) : Prop :=
  ∀ f, n.flight = some f → ∃ g, m.flight = some g ∧ g.slot = f.slot ∧ g.content = f.content ∧ g.kind = f.kind

theorem SameFlight.congr {k : MemoryController} (hm : SameFlight k m) (hf : n.flight = m.flight) : SameFlight k n := by
  simpa only [SameFlight, hf] using hm

/-- Under Low2 no write begins (R60, R63, R65). -/
theorem MemoryMove.sameFlight {k : MemoryController} (h : MemoryMove true asked service m n) (hm : SameFlight k m) :
    SameFlight k n := by
  cases h with
  | ticked =>
    intro f hf
    obtain ⟨g, hg, rfl⟩ := Option.map_eq_some_iff.1 hf
    exact hm g hg
  | judged =>
    rcases begun_flight_cases true m with he | ⟨-, hl, -⟩
    · rwa [he]
    · cases hl
  | rewritten f hf => exact fun g hg => by cases hg; exact hm f hf
  | settled f hf => exact fun g hg => by cases hk : f.kind <;> simp [settledBy, hk] at hg
  | refreshed c hf hl => cases hl
  | passedOver => exact fun f hf => hm f (by simpa using hf)
  | idled | wrote | requested | discarded | dropped | cleared => exact hm.congr rfl

end MemoryMoves

/-! ### Coils (R107, R108) -/

/-- Every coil energized in n was energized in m. -/
def CoilsKept (m n : Motion) : Prop :=
  ∀ r ∈ n.records, r.coil.isSome = true → ∃ q ∈ m.records, q.key = r.key ∧ q.coil = r.coil

theorem CoilsKept.refl (m : Motion) : CoilsKept m m := fun r hr _ => ⟨r, hr, rfl, rfl⟩

theorem CoilsKept.trans {m n k : Motion} (h : CoilsKept m n) (h' : CoilsKept n k) : CoilsKept m k := fun r hr hc => by
  obtain ⟨q, hq, hkey, hcoil⟩ := h' r hr hc
  obtain ⟨p, hp, hkey', hcoil'⟩ := h q hq (hcoil ▸ hc)
  exact ⟨p, hp, hkey'.trans hkey, hcoil'.trans hcoil⟩

/-- f leaves a record's control, and its coil or none. -/
def LeavesCoil (f : MotionRecord → MotionRecord) : Prop :=
  ∀ r, (f r).key = r.key ∧ ((f r).coil = r.coil ∨ (f r).coil = none)

theorem CoilsKept.of_records {m n : Motion} {f : MotionRecord → MotionRecord} (hf : LeavesCoil f)
    (h : n.records = m.records.map f) : CoilsKept m n := fun r hr hc => by
  rw [h] at hr
  obtain ⟨q, hq, rfl⟩ := List.mem_map.1 hr
  obtain ⟨hkey, hcoil | hcoil⟩ := hf q
  · exact ⟨q, hq, hkey.symm, hcoil.symm⟩
  · simp [hcoil] at hc

/-- Under Low2 no pulse starts (R107). -/
theorem judgePulses_of_low2 {s : State} (h : s.supply.low2 = true) : (judgePulses s).motion.records = s.motion.records := by
  have hnow : s.pulsesNow = 0 := by simp [State.pulsesNow, h]
  simp [judgePulses, hnow, Motion.startPulses]

theorem moveRecords_coilsKept {s : State} (h : s.supply.low2 = true) {f : MotionRecord → MotionRecord} (hf : LeavesCoil f) :
    CoilsKept s.motion (moveRecords f s).motion :=
  .of_records hf (judgePulses_of_low2 (s := s.setMotion (s.motion.update f)) h)

theorem LeavesCoil.ite {p : MotionRecord → Prop} [DecidablePred p] {f : MotionRecord → MotionRecord} (hf : LeavesCoil f) :
    LeavesCoil fun r => if p r then f r else r := fun r => by
  dsimp only
  split
  · exact hf r
  · exact ⟨rfl, .inl rfl⟩

theorem LeavesCoil.onRecord {f : MotionRecord → MotionRecord} (hf : LeavesCoil f) (d i : Nat) : LeavesCoil (onRecord d i f) :=
  LeavesCoil.ite (p := fun r => r.d = d ∧ r.i = i) hf

theorem settleState_leavesCoil : LeavesCoil MotionRecord.settleState := fun r => by
  unfold MotionRecord.settleState
  repeat' split
  all_goals exact ⟨rfl, .inl rfl⟩

theorem setSensed_leavesCoil (v : Bool) : LeavesCoil (MotionRecord.setSensed v) := fun r => by
  unfold MotionRecord.setSensed
  split
  · exact ⟨rfl, .inl rfl⟩
  · exact settleState_leavesCoil { r with sensed := v }

theorem setTarget_leavesCoil (v : MotionRecord → Bool) : LeavesCoil fun r => r.setTarget (v r) := fun r => by
  obtain ⟨hd, hi, -, -, hcoil⟩ := setTarget_fields r (v r)
  exact ⟨Prod.ext hd hi, .inl hcoil⟩

theorem endPulse_leavesCoil (settle : Nat) : LeavesCoil (MotionRecord.endPulse settle) := fun r => by
  unfold MotionRecord.endPulse
  split <;> exact ⟨rfl, .inr rfl⟩

theorem judge_leavesCoil : LeavesCoil MotionRecord.judge := fun r => by
  unfold MotionRecord.judge
  repeat' split
  all_goals exact ⟨rfl, .inl rfl⟩

theorem requeue_leavesCoil : LeavesCoil MotionRecord.requeue := fun r => by
  unfold MotionRecord.requeue
  split <;> exact ⟨rfl, .inl rfl⟩

theorem standAside_leavesCoil : LeavesCoil MotionRecord.standAside := fun _ => ⟨rfl, .inl rfl⟩

theorem wake_leavesCoil (v : MotionRecord → Bool) : LeavesCoil fun r => r.wake (v r) := fun _ => ⟨rfl, .inl rfl⟩

theorem localChange_coilsKept {s : State} (h : s.supply.low2 = true) (cs : List (Nat × StopSet)) :
    CoilsKept s.motion (localChange cs s).motion := by
  unfold localChange
  split
  · exact .refl _
  · have hmotion : (cs.foldl changeDivision s).motion = s.motion := by simp
    rw [← hmotion]
    exact moveRecords_coilsKept (by simpa using h) ((setTarget_leavesCoil _).ite (p := fun r => (cs.map Prod.fst).contains r.d = true))

/-! ### What an operation does to the memory and to the coils -/

/-- Between s and t the memory moved, Low2 standing as given, by the requests asked for, and under Low2 no pulse started. -/
structure Goes (low2 : Bool) (asked : List WriteEntry → Prop) (service : Prop) (s t : State) : Prop where
  moves : MemoryMoves low2 asked service s.memory t.memory
  coils : low2 = true → CoilsKept s.motion t.motion

section Goes

variable {low2 : Bool} {asked : List WriteEntry → Prop} {service : Prop} {s t u : State}

theorem Goes.trans (h : Goes low2 asked service s t) (h' : Goes low2 asked service t u) : Goes low2 asked service s u :=
  ⟨h.moves.trans h'.moves, fun hl => (h.coils hl).trans (h'.coils hl)⟩

/-- One operation after another that leaves the supply. -/
theorem Goes.then (h : Goes s.supply.low2 asked service s t) (h' : Goes t.supply.low2 asked service t u)
    (hs : t.supply = s.supply := by simp) : Goes s.supply.low2 asked service s u :=
  h.trans (hs ▸ h')

theorem Goes.of_memory (hm : MemoryMoves low2 asked service s.memory t.memory) (hc : t.motion = s.motion) :
    Goes low2 asked service s t :=
  ⟨hm, fun _ => hc ▸ .refl _⟩

theorem Goes.of_motion (hm : t.memory = s.memory) (hc : low2 = true → CoilsKept s.motion t.motion) :
    Goes low2 asked service s t :=
  ⟨hm ▸ .refl, hc⟩

theorem Goes.of_same (h : t.memory = s.memory ∧ t.motion = s.motion) : Goes low2 asked service s t :=
  .of_motion h.1 fun _ => h.2 ▸ .refl _

theorem Goes.mono {asked' : List WriteEntry → Prop} {service' : Prop} (ha : ∀ r, asked r → asked' r)
    (hs : service → service') (h : Goes low2 asked service s t) : Goes low2 asked' service' s t :=
  ⟨h.moves.mono ha hs, h.coils⟩

/-! ### Local events and captures (R35, R36, R62) -/

theorem localEvent_goes : Goes low2 asked service s (localEvent s) := .of_memory (.single (.idled 0)) (by simp)

theorem writeRequest_goes {r : List WriteEntry} (h : writeRequest r s = some t) (ha : asked r) :
    Goes s.supply.low2 asked service s t := by
  rw [writeRequest_eq] at h
  split at h
  · rename_i hok
    cases h
    exact .of_memory (.tail (.single (.requested r ha hok.2)) .judged) rfl
  · cases h

theorem capturePiston_goes (p : Piston) (r : Record)
    (ha : asked [{ slot := s.slotOfPiston p, content := Record.content r, source := .capture }]) :
    Goes s.supply.low2 asked service s (capturePiston p r s) := by
  unfold capturePiston
  split
  · exact .of_same (by simp)
  · split
    · exact (writeRequest_goes ‹_› ha).trans (.of_same (by simp))
    · exact .of_same (by simp)

theorem recallPiston_goes (p : Piston) : Goes s.supply.low2 asked service s (recallPiston p s) := by
  refine .of_motion (by simp) fun hl => ?_
  unfold recallPiston
  split
  · exact localChange_coilsKept (s := setLive p _ s) (by simpa using hl) _
  · exact (by simp : (answer (.piston p) 3 (latch .memoryCheck s)).motion = s.motion) ▸ .refl _

theorem cancelAll_goes : Goes s.supply.low2 asked service s (cancelAll s) := by
  refine .of_motion (by simp) fun hl => ?_
  have hmotion : (cancelAll s).motion = (localChange ((List.range s.divisionCount).map fun d => (d, 0#48)) s).motion := by
    simp [cancelAll]
  exact hmotion ▸ localChange_coilsKept hl _

theorem senseChange_goes (d i : Nat) (v : Bool) : Goes s.supply.low2 asked service s (senseChange d i v s) := by
  have hmoved : Goes s.supply.low2 asked service s (moveRecords (onRecord d i (MotionRecord.setSensed v)) s) :=
    .of_motion (by simp) fun hl => moveRecords_coilsKept hl ((setSensed_leavesCoil v).onRecord d i)
  unfold senseChange
  dsimp only
  repeat' split
  · exact hmoved.trans (.of_motion (by simp) fun hl => localChange_coilsKept (by simpa using hl) _)
  all_goals exact hmoved

end Goes

/-! ### Requests of the blocks (R48, R49) -/

/-- The figures that the slots of a request are formed from stand in their ranges (R67, R79, R86). -/
def placed (s : State) : Prop := levelsOk s ∧ s.crescendo.program ≤ 3 ∧ s.crescendo.stage ≤ s.config.layout.stages

/-- What the station may ask the memory to write: nothing in Start or without power, and entries in the regions of their sources
where the configuration and the figures the slots are formed from stand in their ranges. -/
def Asked (s : State) (r : List WriteEntry) : Prop :=
  s.station ≠ .start ∧ s.station ≠ .off ∧ (configured s → placed s → requestOk s.bases r)

/-- In play the configuration is held, its layout is in range and fits, and its partition stands (R49, R166). -/
theorem configured_layout {s : State} (h : configured s) (hs : s.station.inPlay = true) :
    layoutOk s.config.layout = true ∧ s.config.layout.fits = true ∧ s.bases = partitionOf s.config.layout := by
  unfold configured at h
  cases hc : s.cfg with
  | none => simp [hc, hs] at h
  | some c =>
    simp only [hc] at h
    obtain ⟨-, hfigures, hpartition⟩ := h
    simp only [figuresOk, Bool.and_eq_true] at hfigures
    simp [State.config, State.bases, hc, hpartition, hfigures]

/-- A line's function keeps to the configuration, and a line of no table has none (R123). -/
theorem configured_parameters {s : State} (h : configured s) (n : Nat) : parametersOk s.config.layout (s.functionOfLine n) = true := by
  unfold State.functionOfLine
  split
  · rename_i e he
    have hmem : e ∈ s.config.table := List.mem_of_getElem? he
    unfold configured at h
    cases hc : s.cfg with
    | none => simp [State.config, hc, noConfiguration] at hmem
    | some c =>
      simp only [hc] at h
      obtain ⟨-, hfigures, -⟩ := h
      simp only [figuresOk, Bool.and_eq_true, List.all_eq_true] at hfigures
      simp only [State.config, hc, Option.getD_some] at hmem ⊢
      exact hfigures.1.2 e hmem
  · rfl

theorem layoutOk_levels {l : Layout} (h : layoutOk l = true) : 1 ≤ l.levels ∧ l.steps % 16 = 0 := by
  simp only [layoutOk, Bool.and_eq_true, decide_eq_true_eq, beq_iff_eq] at h
  omega

/-- A request of one entry keeps to its region where its slot does, and every region lies in the array (R49). -/
theorem requestOk_single {p : Partition} {e : WriteEntry} (h : inRegion p e) (hlt : e.slot < 16384) : requestOk p [e] := by
  intro x hx
  rw [List.mem_singleton.1 hx]
  exact ⟨h, hlt⟩

/-- The slots of a piston that the layout defines lie in the level region (R51). -/
theorem pistonSlot_inRegion {l : Layout} {p : Piston} {level : Nat} (h1 : 1 ≤ level) (h2 : level ≤ l.levels)
    (hp : match p with
      | .general g => parametersOk l (.generalPiston g) = true
      | .divisional d n => parametersOk l (.divisionalPiston d n) = true) :
    (partitionOf l).levelBase ≤ pistonSlot (partitionOf l) l level p ∧ pistonSlot (partitionOf l) l level p < (partitionOf l).levelTop := by
  cases p with
  | general g =>
    simp only [parametersOk, Bool.and_eq_true, decide_eq_true_eq] at hp
    exact pistonSlot_general_inRegion h1 h2 hp.1 hp.2
  | divisional d n =>
    simp only [parametersOk, Bool.and_eq_true, decide_eq_true_eq, Layout.divisionalsOf, List.getD_eq_getElem?_getD] at hp
    obtain ⟨⟨-, hn1⟩, hn⟩ := hp
    cases hk : l.divisionals[d]? with
    | none => simp [hk] at hn; omega
    | some k => exact pistonSlot_divisional_inRegion h1 h2 hk hn1 (by simpa [hk] using hn)

/-- A capture onto a piston that a line names (R35). -/
theorem asked_capture {s : State} {p : Piston} (c : Content) (hs : s.station = .awake)
    (hp : configured s → match p with
      | .general g => parametersOk s.config.layout (.generalPiston g) = true
      | .divisional d n => parametersOk s.config.layout (.divisionalPiston d n) = true) :
    Asked s [{ slot := s.slotOfPiston p, content := c, source := .capture }] := by
  refine ⟨by simp [hs], by simp [hs], fun hc ⟨⟨hlow, hhigh, _⟩, _⟩ => ?_⟩
  obtain ⟨hlayout, hfits, hbases⟩ := configured_layout hc (by rw [hs]; rfl)
  have hlevels := layoutOk_levels hlayout
  have hslot := pistonSlot_inRegion hlow (by omega) (hp hc)
  have hregions := partitionOf_regions hfits
  rw [State.slotOfPiston, hbases]
  exact requestOk_single hslot (by dsimp only; omega)

/-- A stage capture (R90, R91). -/
theorem asked_stage {s : State} (c : Content) (hs : s.station = .awake) (hk : 1 ≤ s.crescendo.stage) :
    Asked s [{ slot := s.presentStageSlot, content := c, source := .stage }] := by
  refine ⟨by simp [hs], by simp [hs], fun hc ⟨_, hprogram, hstage⟩ => ?_⟩
  obtain ⟨-, hfits, hbases⟩ := configured_layout hc (by rw [hs]; rfl)
  have hslot := stageSlot_inRegion hfits hprogram hk hstage
  rw [State.presentStageSlot, hbases]
  exact requestOk_single ⟨hslot.1, by simp only [Config.slotCount]; omega⟩ (by dsimp only; omega)

/-- A tutti capture (R93). -/
theorem asked_tutti {s : State} (c : Content) (hs : s.station = .awake) :
    Asked s [{ slot := Config.tuttiSlot, content := c, source := .tutti }] := by
  refine ⟨by simp [hs], by simp [hs], fun hc _ => ?_⟩
  obtain ⟨-, hfits, hbases⟩ := configured_layout hc (by rw [hs]; rfl)
  have hregions := partitionOf_regions hfits
  rw [hbases]
  exact requestOk_single ⟨by simp only [Config.tuttiSlot]; omega, by simp [Config.tuttiSlot, Config.slotCount]⟩ (by simp [Config.tuttiSlot])

/-- A write of the protection flags or of the last registration (R39, R155). -/
theorem asked_flags {s : State} (c : Content) (hs : s.station = .awake) :
    Asked s [{ slot := Config.protectionSlot, content := c, source := .protection }] :=
  ⟨by simp [hs], by simp [hs], fun _ _ => requestOk_single rfl (by simp [Config.protectionSlot])⟩

theorem asked_lastRegistration {s : State} (c : Content) (hs : s.station.inPlay = true) :
    Asked s [{ slot := Config.lastRegistrationSlot, content := c, source := .lastRegistration }] := by
  refine ⟨?_, ?_, fun _ _ => requestOk_single rfl (by simp [Config.lastRegistrationSlot])⟩
  all_goals
    intro h
    simp [h, Station.inPlay] at hs

/-- An edit whose last slot is a sequence slot of the level (R76). -/
theorem asked_edit {s : State} (steps : List SequenceStep) (first : Nat) {last : Nat} (hs : s.station = .awake)
    (hlast : configured s → placed s → last < s.config.layout.sequenceSlots) : Asked s (s.editRequest steps first last) := by
  refine ⟨by simp [hs], by simp [hs], fun hc hplaced e he => ?_⟩
  obtain ⟨hlayout, hfits, hbases⟩ := configured_layout hc (by rw [hs]; rfl)
  have hend := hlast hc hplaced
  obtain ⟨⟨hlow, hhigh, -⟩, -⟩ := hplaced
  have hlevels := layoutOk_levels hlayout
  obtain ⟨k, hk, rfl⟩ := List.mem_map.1 he
  rw [List.mem_range] at hk
  have hslot := sequenceSlot_inRegion hfits (level := s.recallUnit.level) (j := first + k) hlow (by omega) (by omega)
  have hregions := partitionOf_regions hfits
  rw [hbases]
  exact ⟨hslot, by simp only [Config.slotCount]; omega⟩

/-- A service write that names a slot of the array (R66). -/
theorem asked_service {s : State} {n : Nat} (request : Nat) (c : Content) (hs : s.station = .service) (hn : n < 16384) :
    Asked s [{ slot := n, content := c, source := .service request }] :=
  ⟨by simp [hs], by simp [hs], fun _ _ => requestOk_single hn hn⟩

/-! ### What each press does to the memory and to the coils -/

section Presses

variable {service : Prop} {s : State}

/-- A piston press: a capture under Set, else a recall (R24, R26, R33, R34). -/
theorem pressPiston_goes {p : Piston} (r : Record) (hs : s.station = .awake)
    (hp : configured s → match p with
      | .general g => parametersOk s.config.layout (.generalPiston g) = true
      | .divisional d n => parametersOk s.config.layout (.divisionalPiston d n) = true) :
    Goes s.supply.low2 (Asked s) service s
      (if s.setIsHeld then capturePiston p r (localEvent s) else recallPiston p (localEvent s)) := by
  split
  · exact localEvent_goes.then (capturePiston_goes p r (asked_capture (s := s) _ hs hp))
  · exact localEvent_goes.then (recallPiston_goes p)

theorem pressGeneral_goes {g : Nat} (hp : configured s → parametersOk s.config.layout (.generalPiston g) = true) :
    Goes s.supply.low2 (Asked s) service s (pressGeneral g s) := by
  unfold pressGeneral
  split
  · exact pressPiston_goes (p := .general g) _ ‹_› hp
  · exact .of_same ⟨rfl, rfl⟩

theorem pressDivisional_goes {d n : Nat} (hp : configured s → parametersOk s.config.layout (.divisionalPiston d n) = true) :
    Goes s.supply.low2 (Asked s) service s (pressDivisional d n s) := by
  unfold pressDivisional
  split
  · exact pressPiston_goes (p := .divisional d n) _ ‹_› hp
  · exact .of_same ⟨rfl, rfl⟩

theorem pressGeneralCancel_goes {asked : List WriteEntry → Prop} : Goes s.supply.low2 asked service s (pressGeneralCancel s) := by
  unfold pressGeneralCancel
  split
  · exact localEvent_goes.then cancelAll_goes
  · exact .of_same ⟨rfl, rfl⟩

theorem pressDivisionCancel_goes {asked : List WriteEntry → Prop} (d : Nat) :
    Goes s.supply.low2 asked service s (pressDivisionCancel d s) := by
  unfold pressDivisionCancel
  dsimp only
  repeat' split
  · exact localEvent_goes.then (.of_same (by simp))
  · exact localEvent_goes.then (.of_motion (by simp) fun hl => localChange_coilsKept (by simpa using hl) _)
  · exact .of_same ⟨rfl, rfl⟩

theorem performStep_goes {asked : List WriteEntry → Prop} : Goes s.supply.low2 asked service s (performStep s) := by
  unfold performStep
  repeat' split
  · rename_i x _ _
    cases x with
    | general g => exact localEvent_goes.then (recallPiston_goes _)
    | divisional d n => exact localEvent_goes.then (recallPiston_goes _)
    | generalCancel => exact localEvent_goes.then cancelAll_goes
  all_goals exact .of_same ⟨rfl, rfl⟩

theorem setCursor_performStep_goes {asked : List WriteEntry → Prop} (n : Nat) :
    Goes s.supply.low2 asked service s (performStep (setCursor n s)) :=
  Goes.then (t := setCursor n s) (.of_same ⟨rfl, rfl⟩) performStep_goes

theorem edit_goes {asked : List WriteEntry → Prop} (steps : List SequenceStep) (cursor first last : Nat)
    (ha : asked (s.editRequest steps first last)) : Goes s.supply.low2 asked service s (edit steps cursor first last s) := by
  unfold edit
  split
  · exact (writeRequest_goes ‹_› ha).trans (.of_same (by simp))
  · exact .of_same (by simp)

/-- The last slot an insert writes is one of the level's, since the list has room (R74). -/
theorem insertStep_goes (hs : s.station = .awake) : Goes s.supply.low2 (Asked s) service s (insertStep s) := by
  unfold insertStep
  dsimp only
  split
  · exact .of_same (by simp)
  · rename_i hroom
    refine edit_goes _ _ _ _ (asked_edit _ _ hs fun hc _ => ?_)
    have hlen : s.sequencer.steps.length < s.config.layout.steps := Nat.lt_of_not_le fun h => hroom (.inl h)
    have hsteps := (layoutOk_levels (configured_layout hc (by rw [hs]; rfl)).1).2
    simp only [Layout.sequenceSlots]
    omega

/-- The last slot a delete writes is one of the level's, since the list is no longer than Q (R67, R75). -/
theorem deleteStep_goes (hs : s.station = .awake) : Goes s.supply.low2 (Asked s) service s (deleteStep s) := by
  unfold deleteStep
  dsimp only
  split
  · exact .of_same (by simp)
  · rename_i hcursor
    refine edit_goes _ _ _ _ (asked_edit _ _ hs fun hc ⟨⟨_, _, hle, hlen⟩, _⟩ => ?_)
    have hpos : s.sequencer.cursor ≠ 0 := fun h => hcursor (.inl h)
    have hsteps := (layoutOk_levels (configured_layout hc (by rw [hs]; rfl)).1).2
    simp only [Layout.sequenceSlots]
    omega

theorem pressNext_goes : Goes s.supply.low2 (Asked s) service s (pressNext s) := by
  unfold pressNext stepNext
  repeat' split
  · exact insertStep_goes ‹_›
  · exact setCursor_performStep_goes _
  · exact .of_same (by simp)
  · exact .of_same ⟨rfl, rfl⟩

theorem pressPrevious_goes : Goes s.supply.low2 (Asked s) service s (pressPrevious s) := by
  unfold pressPrevious stepPrevious
  repeat' split
  · exact deleteStep_goes ‹_›
  · exact setCursor_performStep_goes _
  all_goals exact .of_same ⟨rfl, rfl⟩

theorem captureStage_goes (hs : s.station = .awake) : Goes s.supply.low2 (Asked s) service s (captureStage s) := by
  unfold captureStage
  dsimp only
  split
  · exact .of_same (by simp)
  · rename_i hopen
    have hstage : 1 ≤ s.crescendo.stage := by
      simp only [State.stageCaptureRefused, Bool.or_eq_true, beq_iff_eq, not_or] at hopen
      omega
    split
    · rename_i u hu
      have hnoted : Goes s.supply.low2 (Asked s) service s
          (noteReads (s.stageSlots s.crescendo.program (s.crescendo.stage - 1)) s) := .of_same (by simp)
      exact (hnoted.then (writeRequest_goes hu (asked_stage (s := s) _ hs hstage))).trans (.of_same (by simp))
    · exact .of_same (by simp)

theorem pressCrescendoSet_goes : Goes s.supply.low2 (Asked s) service s (pressCrescendoSet s) := by
  unfold pressCrescendoSet
  split
  · exact captureStage_goes (‹_ ∧ _›).1
  · exact .of_same ⟨rfl, rfl⟩

theorem pressTutti_goes : Goes s.supply.low2 (Asked s) service s (pressTutti s) := by
  unfold pressTutti captureTutti
  repeat' split
  · exact .of_same (by simp)
  · exact (writeRequest_goes ‹_› (asked_tutti _ ‹_›)).trans (.of_same (by simp))
  · exact writeRequest_goes ‹_› (asked_tutti _ ‹_›)
  all_goals exact .of_same (by simp)

theorem pressProtect_goes : Goes s.supply.low2 (Asked s) service s (pressProtect s) := by
  unfold pressProtect
  dsimp only
  repeat' split
  · exact (writeRequest_goes ‹_› (asked_flags _ ‹_›)).trans (.of_same (by simp))
  all_goals exact .of_same (by simp)

theorem pressLevelUp_goes {asked : List WriteEntry → Prop} : Goes s.supply.low2 asked service s (pressLevelUp s) := by
  unfold pressLevelUp
  dsimp only
  repeat' split
  · exact localEvent_goes.then (.of_same (by simp))
  · exact localEvent_goes
  · exact .of_same ⟨rfl, rfl⟩

theorem pressLevelDown_goes {asked : List WriteEntry → Prop} : Goes s.supply.low2 asked service s (pressLevelDown s) := by
  unfold pressLevelDown
  dsimp only
  repeat' split
  · exact localEvent_goes.then (.of_same (by simp))
  · exact localEvent_goes
  · exact .of_same ⟨rfl, rfl⟩

/-! ### Changes of the station state (R116, R117, R155) -/

theorem saveLastRegistration_goes {asked : List WriteEntry → Prop}
    (ha : ∀ c, asked [{ slot := Config.lastRegistrationSlot, content := c, source := .lastRegistration }]) :
    Goes s.supply.low2 asked service s (saveLastRegistration s) := by
  unfold saveLastRegistration
  split
  · cases h : writeRequest [{ slot := Config.lastRegistrationSlot, content := setsContent s.drawnSets, source := .lastRegistration }] s with
    | some t => exact writeRequest_goes h (ha _)
    | none => exact .of_same ⟨rfl, rfl⟩
  · exact .of_same ⟨rfl, rfl⟩

theorem enterDormant_goes (hs : s.station.inPlay = true) : Goes s.supply.low2 (Asked s) service s (enterDormant s) := by
  set u := formEffective (dropCounts (standRecordsAside (s.setStation .dormant))) with hu
  have hmotion : u.motion = (standRecordsAside s).motion := by simp [hu, standRecordsAside]
  have haside : Goes s.supply.low2 (Asked s) service s u :=
    .of_motion (by simp [hu]) fun _ => hmotion ▸ .of_records standAside_leavesCoil rfl
  exact haside.then (saveLastRegistration_goes fun c => asked_lastRegistration c hs) (by simp [hu])

theorem enterAwake_goes {asked : List WriteEntry → Prop} : Goes s.supply.low2 asked service s (enterAwake s) := by
  have hmotion : (enterAwake s).motion = (wakeRecords (s.setStation .awake)).motion := by simp [enterAwake]
  exact .of_motion (by simp) fun hl => hmotion ▸ moveRecords_coilsKept (s := s.setStation .awake) (by simpa using hl) (wake_leavesCoil _)

theorem judgeConsole_goes : Goes s.supply.low2 (Asked s) service s (judgeConsole s) := by
  unfold judgeConsole
  repeat' split
  · exact .of_same ⟨rfl, rfl⟩
  · rename_i hs _
    exact enterDormant_goes (by rw [hs]; rfl)
  · have hreference : Goes s.supply.low2 (Asked s) service s (takeReference s) := .of_same (by simp)
    exact hreference.then enterAwake_goes
  all_goals exact .of_same ⟨rfl, rfl⟩

theorem acknowledge_goes {asked : List WriteEntry → Prop} : Goes s.supply.low2 asked service s (acknowledge s) := by
  unfold acknowledge
  repeat' split
  · exact .of_motion (by simp) fun hl => by
      simpa using moveRecords_coilsKept hl requeue_leavesCoil
  · exact .of_same (by simp)
  · exact .of_same ⟨rfl, rfl⟩

/-! ### Changes of lines (R125 to R128) -/

/-- A press, of a function within the configuration, asks for requests in their regions alone. -/
theorem handPress_goes {f : LineFunction} (hf : configured s → parametersOk s.config.layout f = true) :
    Goes s.supply.low2 (Asked s) service s (handPress f s) := by
  cases f with
  | stopSense d i => exact senseChange_goes d i true
  | generalPiston g => exact pressGeneral_goes hf
  | divisionalPiston d n => exact pressDivisional_goes hf
  | set =>
    show Goes _ _ _ _ (pressSet s)
    unfold pressSet
    split
    · exact localEvent_goes.then (.of_same (by simp))
    · exact .of_same ⟨rfl, rfl⟩
  | generalCancel => exact pressGeneralCancel_goes
  | divisionCancel d => exact pressDivisionCancel_goes d
  | levelUp => exact pressLevelUp_goes
  | levelDown => exact pressLevelDown_goes
  | sequencerNext => exact pressNext_goes
  | sequencerPrevious => exact pressPrevious_goes
  | tutti => exact pressTutti_goes
  | crescendoSet => exact pressCrescendoSet_goes
  | protect => exact pressProtect_goes
  | consoleKey => exact judgeConsole_goes
  | faultAcknowledge => exact acknowledge_goes
  | crescendoProgram | encoderIndex | unused | protectOverride | encoderA | encoderB => exact .of_same (by simp [handPress])

theorem handRelease_goes (f : LineFunction) : Goes s.supply.low2 (Asked s) service s (handRelease f s) := by
  have hevent : ∀ (p : Prop) [Decidable p] (t : State), (t.memory = (localEvent s).memory ∧ t.motion = (localEvent s).motion) →
      Goes s.supply.low2 (Asked s) service s (if p then t else s) := fun p _ t ht => by
    split
    · exact localEvent_goes.then (.of_same ht)
    · exact .of_same ⟨rfl, rfl⟩
  cases f with
  | stopSense d i => exact senseChange_goes d i false
  | consoleKey => exact judgeConsole_goes
  | set => exact hevent _ _ (by simp)
  | divisionCancel d => exact hevent _ _ (by simp)
  | generalPiston | divisionalPiston | generalCancel | levelUp | levelDown => exact hevent _ _ ⟨rfl, rfl⟩
  | _ => exact .of_same ⟨rfl, rfl⟩

theorem handChange_goes {f : LineFunction} (v : Bool) (hf : configured s → parametersOk s.config.layout f = true) :
    Goes s.supply.low2 (Asked s) service s (handChange f v s) := by
  unfold handChange
  repeat' split
  · exact handPress_goes hf
  · exact handRelease_goes f
  · exact .of_same ⟨rfl, rfl⟩

end Presses

/-! ### The figures that slots are formed from stay in their ranges (R67, R79, R86) -/

theorem placed.congr {s t : State} (h : placed s) (hlevel : t.recallUnit.level = s.recallUnit.level)
    (hsequencer : t.sequencer = s.sequencer) (hprogram : t.crescendo.program = s.crescendo.program)
    (hstage : t.crescendo.stage = s.crescendo.stage) (hconfig : t.config = s.config) : placed t := by
  simpa only [placed, levelsOk, hlevel, hsequencer, hprogram, hstage, hconfig] using h

@[simp] theorem formEffective_stage (s : State) :
    (formEffective s).crescendo.program = s.crescendo.program ∧ (formEffective s).crescendo.stage = s.crescendo.stage := by
  unfold formEffective
  split <;> exact ⟨rfl, rfl⟩

@[simp] theorem formAdditions_stage (old : CrescendoUnit) (s : State) :
    (formAdditions old s).crescendo.program = s.crescendo.program ∧ (formAdditions old s).crescendo.stage = s.crescendo.stage := by
  simp only [formAdditions]
  split <;> simp

@[simp] theorem setTutti_stage (v : Bool) (s : State) :
    (setTutti v s).crescendo.program = s.crescendo.program ∧ (setTutti v s).crescendo.stage = s.crescendo.stage := by
  unfold setTutti
  split <;> simp

/-- The new stage is one of the configuration's, as the current one is (R86). -/
theorem selectStage_le (c : Configuration) (y : Nat) {stage : Nat} (h : stage ≤ c.layout.stages) :
    selectStage c y stage ≤ c.layout.stages := by
  unfold selectStage candidateStage
  dsimp only
  repeat' split
  all_goals omega

theorem formAdditions_placed {s t : State} (old : CrescendoUnit) (h : placed s) (hlevel : t.recallUnit = s.recallUnit)
    (hsequencer : t.sequencer = s.sequencer) (hprogram : t.crescendo.program ≤ 3)
    (hstage : t.crescendo.stage ≤ s.config.layout.stages) (hconfig : t.config = s.config) : placed (formAdditions old t) := by
  obtain ⟨hlevels, -, -⟩ := h
  refine ⟨?_, by simpa using hprogram, by simpa [hconfig] using hstage⟩
  simpa only [levelsOk, (by simp : (formAdditions old t).recallUnit = t.recallUnit),
    (by simp : (formAdditions old t).sequencer = t.sequencer), (by simp : (formAdditions old t).config = t.config), hlevel, hsequencer,
    hconfig] using hlevels

theorem evaluateStage_placed {s : State} (h : placed s) : placed (evaluateStage s) := by
  unfold evaluateStage
  dsimp only
  repeat' split
  · exact h
  · exact h
  · exact formAdditions_placed _ h rfl rfl h.2.1 (selectStage_le _ _ h.2.2) rfl

theorem wakeCrescendo_placed {s : State} (h : placed s) : placed (wakeCrescendo s) := by
  refine formAdditions_placed _ h rfl rfl h.2.1 ?_ rfl
  show s.stageOnWaking ≤ _
  unfold State.stageOnWaking
  split
  · exact h.2.2
  · exact selectStage_le _ _ h.2.2

@[simp] theorem recallPiston_level (p : Piston) (s : State) :
    (recallPiston p s).recallUnit.level = s.recallUnit.level ∧ (recallPiston p s).crescendo = s.crescendo := by
  unfold recallPiston
  split <;> simp [setLive]

@[simp] theorem cancelAll_level (s : State) : (cancelAll s).recallUnit.level = s.recallUnit.level
    ∧ (cancelAll s).crescendo.program = s.crescendo.program ∧ (cancelAll s).crescendo.stage = s.crescendo.stage := by
  simp [cancelAll, clearLive]

@[simp] theorem capturePiston_level (p : Piston) (r : Record) (s : State) :
    (capturePiston p r s).recallUnit.level = s.recallUnit.level ∧ (capturePiston p r s).crescendo = s.crescendo := by
  unfold capturePiston
  repeat' split
  · simp
  · simp [setLive, writeRequest_frame ‹_›]
  · simp

theorem stepsBeforeNone_length (l : List (Option SequenceStep)) : (stepsBeforeNone l).length ≤ l.length := by
  induction l with
  | nil => simp [stepsBeforeNone]
  | cons x rest ih =>
    cases x with
    | none => simp [stepsBeforeNone]
    | some x => simpa [stepsBeforeNone] using ih

/-- A level's stored list is no longer than Q (R67, R69). -/
theorem storedSteps_length (s : State) (level : Nat) : (s.storedSteps level).length ≤ s.config.layout.steps := by
  have hslot : ∀ n, (s.entriesOfSlot n).length = 16 := fun n => by
    unfold State.entriesOfSlot
    split <;> simp
  have hentries : ((s.sequenceSlots level).flatMap s.entriesOfSlot).length = s.config.layout.sequenceSlots * 16 := by
    simp [List.length_flatMap, hslot, State.sequenceSlots, Function.comp_def]
  refine (stepsBeforeNone_length _).trans (hentries ▸ ?_)
  simp only [Layout.sequenceSlots]
  omega

theorem changeLevel_placed {s : State} {level : Nat} (h : placed s) (h1 : 1 ≤ level) (h2 : level ≤ max 1 s.config.layout.levels) :
    placed (changeLevel level s) := by
  obtain ⟨-, hprogram, hstage⟩ := h
  rw [changeLevel_eq, afterReads_eq]
  exact ⟨⟨h1, h2, Nat.zero_le _, storedSteps_length s level⟩, hprogram, hstage⟩

theorem localEvent_placed {s : State} (h : placed s) : placed (localEvent s) := h.congr rfl rfl rfl rfl rfl

theorem performStep_placed {s : State} (h : placed s) : placed (performStep s) := by
  unfold performStep
  repeat' split
  · rename_i x _ _
    cases x <;> exact (localEvent_placed h).congr (by simp [takeStep]) (by simp) (by simp [takeStep]) (by simp [takeStep]) (by simp)
  all_goals exact h

theorem setCursor_placed {s : State} {n : Nat} (h : placed s) (hn : n ≤ s.sequencer.steps.length) : placed (setCursor n s) := by
  obtain ⟨⟨hlow, hhigh, -, hlen⟩, hcrescendo⟩ := h
  exact ⟨⟨hlow, hhigh, hn, hlen⟩, hcrescendo⟩

theorem edit_placed {s : State} {steps : List SequenceStep} {cursor : Nat} (first last : Nat) (h : placed s)
    (hcursor : cursor ≤ steps.length) (hlen : steps.length ≤ s.config.layout.steps) : placed (edit steps cursor first last s) := by
  unfold edit
  split
  · rename_i t ht
    have hu := writeRequest_frame ht
    have hconfig : t.config = s.config := by simp [hu]
    obtain ⟨⟨hlow, hhigh, -⟩, hrest⟩ : placed t :=
      h.congr (by simp [hu]) (by simp [hu]) (by simp [hu]) (by simp [hu]) hconfig
    exact ⟨⟨hlow, hhigh, hcursor, show _ ≤ t.config.layout.steps from hconfig ▸ hlen⟩, hrest⟩
  · exact h.congr rfl rfl rfl rfl rfl

theorem insertStep_placed {s : State} (h : placed s) : placed (insertStep s) := by
  unfold insertStep
  dsimp only
  split
  · exact h.congr rfl rfl rfl rfl rfl
  · rename_i hroom
    have hcursor : s.sequencer.cursor ≤ s.sequencer.steps.length := h.1.2.2.1
    have hlen : (s.sequencer.steps.insertIdx s.sequencer.cursor s.insertedStep).length = s.sequencer.steps.length + 1 :=
      List.length_insertIdx_of_le_length hcursor _
    have hfree : s.sequencer.steps.length < s.config.layout.steps := Nat.lt_of_not_le fun hn => hroom (.inl hn)
    exact edit_placed _ _ h (by omega) (by omega)

theorem deleteStep_placed {s : State} (h : placed s) : placed (deleteStep s) := by
  unfold deleteStep
  dsimp only
  split
  · exact h.congr rfl rfl rfl rfl rfl
  · rename_i hbarred
    obtain ⟨-, -, hcursor, hsteps⟩ := h.1
    have hpos : s.sequencer.cursor ≠ 0 := fun hn => hbarred (.inl hn)
    have hlen : (s.sequencer.steps.eraseIdx (s.sequencer.cursor - 1)).length = s.sequencer.steps.length - 1 :=
      List.length_eraseIdx_of_lt (by omega)
    exact edit_placed _ _ h (by omega) (by omega)

theorem pressNext_placed {s : State} (h : placed s) : placed (pressNext s) := by
  unfold pressNext stepNext
  repeat' split
  · exact insertStep_placed h
  · exact performStep_placed (setCursor_placed h ‹_›)
  · exact h.congr rfl rfl rfl rfl rfl
  · exact h

theorem pressPrevious_placed {s : State} (h : placed s) : placed (pressPrevious s) := by
  have hcursor : s.sequencer.cursor ≤ s.sequencer.steps.length := h.1.2.2.1
  unfold pressPrevious stepPrevious
  repeat' split
  · exact deleteStep_placed h
  · exact performStep_placed (setCursor_placed h (by omega))
  all_goals exact h

theorem pressLevel_placed {s : State} (h : placed s) : placed (pressLevelUp s) ∧ placed (pressLevelDown s) := by
  obtain ⟨hlow, hhigh, -⟩ := h.1
  unfold pressLevelUp pressLevelDown
  dsimp only
  constructor
  · repeat' split
    · exact changeLevel_placed (localEvent_placed h) (by omega) (by simp; omega)
    · exact localEvent_placed h
    · exact h
  · repeat' split
    · exact changeLevel_placed (localEvent_placed h) (by omega) (by simp; omega)
    · exact localEvent_placed h
    · exact h

theorem judgeConsole_placed {s : State} (h : placed s) : placed (judgeConsole s) := by
  unfold judgeConsole
  repeat' split
  · exact h
  · exact h.congr (by simp [enterDormant, dropCounts]) (by simp) (by simp [enterDormant]) (by simp [enterDormant]) (by simp)
  · exact wakeCrescendo_placed (h.congr (by simp) (by simp) (by simp [takeReference]) (by simp [takeReference]) (by simp))
  all_goals exact h

theorem pressPiston_placed {s : State} (h : placed s) (p : Piston) (r : Record) :
    placed (if s.setIsHeld then capturePiston p r (localEvent s) else recallPiston p (localEvent s)) := by
  split
  · exact (localEvent_placed h).congr (by simp) (by simp) (by simp) (by simp) (by simp)
  · exact (localEvent_placed h).congr (by simp) (by simp) (by simp) (by simp) (by simp)

theorem captureStage_placed {s : State} (h : placed s) : placed (captureStage s) := by
  unfold captureStage
  dsimp only
  repeat' split
  · exact h.congr rfl rfl rfl rfl rfl
  · rename_i t ht
    have hu := writeRequest_frame ht
    exact h.congr (by simp [hu]) (by simp [hu]) (by simp [hu]) (by simp [hu]) (by simp [hu])
  · exact h.congr rfl rfl rfl rfl rfl

theorem pressTutti_placed {s : State} (h : placed s) : placed (pressTutti s) := by
  have hwritten : ∀ {r : List WriteEntry} {t : State}, writeRequest r s = some t → placed t := fun ht => by
    have hu := writeRequest_frame ht
    exact h.congr (by simp [hu]) (by simp [hu]) (by simp [hu]) (by simp [hu]) (by simp [hu])
  unfold pressTutti captureTutti
  repeat' split
  · exact h.congr rfl rfl rfl rfl rfl
  · exact (hwritten ‹_›).congr (by simp) (by simp) (by simp) (by simp) (by simp)
  · exact hwritten ‹_›
  · exact h.congr rfl rfl rfl rfl rfl
  · exact h.congr (by simp) (by simp) (by simp) (by simp) (by simp)
  · exact h

theorem pressProgram_placed {s : State} (h : placed s) : placed (pressProgram s) := by
  unfold pressProgram
  split
  · exact formAdditions_placed _ h rfl rfl (by simp only [State.setCrescendo_crescendo]; omega) h.2.2 rfl
  · exact h

theorem indexEdge_placed {s : State} (h : placed s) : placed (indexEdge s) := by
  unfold indexEdge
  dsimp only
  repeat' split
  · exact evaluateStage_placed (h.congr (by simp) (by simp) (by simp) (by simp) (by simp))
  · exact h.congr (by simp) (by simp) (by simp) (by simp) (by simp)
  · exact h

theorem handPress_placed (f : LineFunction) {s : State} (h : placed s) : placed (handPress f s) := by
  cases f with
  | levelUp => exact (pressLevel_placed h).1
  | levelDown => exact (pressLevel_placed h).2
  | sequencerNext => exact pressNext_placed h
  | sequencerPrevious => exact pressPrevious_placed h
  | consoleKey => exact judgeConsole_placed h
  | encoderIndex => exact indexEdge_placed h
  | crescendoProgram => exact pressProgram_placed h
  | tutti => exact pressTutti_placed h
  | generalPiston g =>
    show placed (pressGeneral g s)
    unfold pressGeneral
    split
    · exact pressPiston_placed h _ _
    · exact h
  | divisionalPiston d n =>
    show placed (pressDivisional d n s)
    unfold pressDivisional
    split
    · exact pressPiston_placed h _ _
    · exact h
  | crescendoSet =>
    show placed (pressCrescendoSet s)
    unfold pressCrescendoSet
    split
    · exact captureStage_placed h
    · exact h
  | generalCancel =>
    show placed (pressGeneralCancel s)
    unfold pressGeneralCancel
    split
    · exact h.congr (by simp) (by simp) (by simp) (by simp) (by simp)
    · exact h
  | set =>
    show placed (pressSet s)
    unfold pressSet
    split
    · exact h.congr rfl rfl rfl rfl rfl
    · exact h
  | divisionCancel d =>
    show placed (pressDivisionCancel d s)
    unfold pressDivisionCancel
    dsimp only
    repeat' split
    · exact h.congr rfl rfl rfl rfl rfl
    · exact h.congr (by simp [setCancelCount]) (by simp) (by simp) (by simp) (by simp)
    · exact h
  | protect =>
    show placed (pressProtect s)
    unfold pressProtect
    dsimp only
    repeat' split
    · rename_i t ht
      have hu := writeRequest_frame ht
      exact h.congr (by simp [hu]) (by simp [hu]) (by simp [hu]) (by simp [hu]) (by simp [hu])
    · exact h.congr rfl rfl rfl rfl rfl
    · exact h.congr rfl rfl rfl rfl rfl
    · exact h
  | stopSense | faultAcknowledge | unused | protectOverride | encoderA | encoderB =>
    exact h.congr (by simp [handPress]) (by simp [handPress]) (by simp [handPress]) (by simp [handPress]) (by simp)

theorem handRelease_placed (f : LineFunction) {s : State} (h : placed s) : placed (handRelease f s) := by
  have hevent : ∀ (p : Prop) [Decidable p] (t : State), t.recallUnit.level = s.recallUnit.level → t.sequencer = s.sequencer →
      t.crescendo = s.crescendo → t.config = s.config → placed (if p then t else s) := fun p _ t h1 h2 h3 h4 => by
    split
    · exact h.congr h1 h2 (by rw [h3]) (by rw [h3]) h4
    · exact h
  cases f with
  | consoleKey => exact judgeConsole_placed h
  | stopSense => exact h.congr (by simp [handRelease]) (by simp [handRelease]) (by simp [handRelease]) (by simp [handRelease]) (by simp)
  | set | divisionCancel | generalPiston | divisionalPiston | generalCancel | levelUp | levelDown => exact hevent _ _ rfl rfl rfl rfl
  | _ => exact h

/-- A line's change keeps the figures that slots are formed from in their ranges. -/
theorem handChange_placed (f : LineFunction) (v : Bool) {s : State} (h : placed s) : placed (handChange f v s) := by
  unfold handChange
  repeat' split
  · exact handPress_placed f h
  · exact handRelease_placed f h
  · exact h

/-! ### Changes of lines, one after another (R125) -/

/-- The station stays where it is, or moves within play. -/
def PlayMoves (a b : Station) : Prop := b = a ∨ (a.inPlay = true ∧ b.inPlay = true)

theorem PlayMoves.trans {a b c : Station} (h : PlayMoves a b) (h' : PlayMoves b c) : PlayMoves a c := by
  rcases h with rfl | ⟨ha, hb⟩
  · exact h'
  · rcases h' with rfl | ⟨-, hc⟩
    · exact .inr ⟨ha, hb⟩
    · exact .inr ⟨ha, hc⟩

theorem judgeConsole_playMoves (s : State) : PlayMoves s.station (judgeConsole s).station := by
  have hd : (enterDormant s).station = .dormant := by simp [enterDormant]
  have ha : (enterAwake (takeReference s)).station = .awake := by simp [enterAwake]
  unfold judgeConsole
  split
  · rename_i hs
    split
    · exact .inl rfl
    · exact .inr ⟨by rw [hs]; rfl, by rw [hd]; rfl⟩
  · rename_i hs
    split
    · exact .inr ⟨by rw [hs]; rfl, by rw [ha]; rfl⟩
    · exact .inl rfl
  · exact .inl rfl

theorem handChange_playMoves (f : LineFunction) (v : Bool) (s : State) : PlayMoves s.station (handChange f v s).station := by
  unfold handChange
  repeat' split
  · cases f with
    | consoleKey => exact judgeConsole_playMoves s
    | _ => exact .inl (by simp [handPress])
  · cases f with
    | consoleKey => exact judgeConsole_playMoves s
    | _ => exact .inl (by simp [handRelease])
  · exact .inl rfl

/-- What a later moment of play asks for, this one does: the partition and the ranges stand. -/
theorem Asked.of_later {s t : State} {r : List WriteEntry} (hstation : PlayMoves s.station t.station)
    (hconf : configured s → configured t) (hplaced : placed s → placed t) (hbases : t.bases = s.bases) (h : Asked t r) :
    Asked s r := by
  obtain ⟨hstart, hoff, hok⟩ := h
  have hregions : configured s → placed s → requestOk s.bases r := fun hc hp => hbases ▸ hok (hconf hc) (hplaced hp)
  rcases hstation with he | ⟨hs, -⟩
  · exact ⟨he ▸ hstart, he ▸ hoff, hregions⟩
  · refine ⟨?_, ?_, hregions⟩
    all_goals
      intro hn
      simp [hn, Station.inPlay] at hs

theorem handChange_configured (f : LineFunction) (v : Bool) {s : State} (h : configured s) : configured (handChange f v s) :=
  ImageStep.configured (.inl ((handChange_continues f v s).advances (by decide))) h

theorem handLine_goes {service : Prop} (s : State) (n : Nat) : Goes s.supply.low2 (Asked s) service s (handLine s n) :=
  handChange_goes _ fun hc => configured_parameters hc n

theorem handLines_goes {service : Prop} (ns : List Nat) (s : State) :
    Goes s.supply.low2 (Asked s) service s (ns.foldl handLine s) := by
  induction ns generalizing s with
  | nil => exact .of_same ⟨rfl, rfl⟩
  | cons n ns ih =>
    have hrest : Goes (handLine s n).supply.low2 (Asked s) service (handLine s n) (ns.foldl handLine (handLine s n)) :=
      (ih (handLine s n)).mono (fun _ => Asked.of_later (handChange_playMoves _ _ s) (handChange_configured _ _)
        (handChange_placed _ _) (by simp)) id
    exact (handLine_goes s n).then hrest (by simp [handLine])

theorem handLines_playMoves (ns : List Nat) (s : State) : PlayMoves s.station (ns.foldl handLine s).station := by
  induction ns generalizing s with
  | nil => exact .inl rfl
  | cons n ns ih => exact (handChange_playMoves _ _ s).trans (ih (handLine s n))

theorem handLines_supply (ns : List Nat) (s : State) : (ns.foldl handLine s).supply = s.supply := by
  induction ns generalizing s with
  | nil => rfl
  | cons n ns ih => exact (ih _).trans (by simp [handLine])

/-! ### What every command does to the memory and to the coils -/

/-- The station stays, moves within play, leaves Start unplayed, or enters Restarting without a clear. -/
def StationGoes (s t : State) : Prop :=
  PlayMoves s.station t.station ∨ (s.station = .start ∧ (t.station = .service ∨ t.station = .unconfigured))
    ∨ (t.station = .restarting ∧ t.memory.clear = none)

/-- The memory moves as the station asks, and under Low2 no pulse starts. -/
structure Proceeds (s t : State) : Prop where
  goes : Goes t.supply.low2 (Asked s) (s.station = .service) s t
  station : StationGoes s t

/-- A start or a loss of power: the array alone is left of the memory, and no record (R46, R165, R166). -/
def Renewed (s t : State) : Prop :=
  ∃ cells, (Memory.wf s.memory.cells = true → Memory.wf cells = true) ∧ t.memory = { State.reset.memory with cells := cells }
    ∧ t.motion.records = []

/-- Start is left with a configuration: its partition stands, and records without a coil are made (R49, R102, R166). -/
def BroughtUp (s t : State) : Prop :=
  s.station = .start ∧ t.station = .joining ∧ (∃ p, t.memory = { s.memory with partition := some p, idle := 0 })
    ∧ ∀ r ∈ t.motion.records, r.coil = none

/-- Every command is one of the three. -/
def MemoryStep (s t : State) : Prop := Proceeds s t ∨ Renewed s t ∨ BroughtUp s t

section Commands

variable {s t : State}

theorem Proceeds.of_goes (h : Goes s.supply.low2 (Asked s) (s.station = .service) s t) (hsupply : t.supply = s.supply)
    (hstation : PlayMoves s.station t.station) : Proceeds s t :=
  ⟨hsupply ▸ h, .inl hstation⟩

/-- A command that touches neither memory nor motion nor station state. -/
theorem Proceeds.of_same (h : t.memory = s.memory ∧ t.motion = s.motion ∧ t.station = s.station) : Proceeds s t :=
  ⟨.of_same ⟨h.1, h.2.1⟩, .inl (.inl h.2.2)⟩

theorem MemoryStep.of_same (h : t.memory = s.memory ∧ t.motion = s.motion ∧ t.station = s.station) : MemoryStep s t :=
  .inl (.of_same h)

/-- The fields that the memory, the coils and the requests rest on are those of s. -/
def SameGround (s u : State) : Prop :=
  u.memory = s.memory ∧ u.motion = s.motion ∧ u.station = s.station ∧ u.cfg = s.cfg ∧ u.recallUnit = s.recallUnit
    ∧ u.sequencer = s.sequencer ∧ u.crescendo = s.crescendo

/-- The requests rest on these fields alone. -/
theorem Asked.of_fields {u : State} (hfields : u.memory = s.memory ∧ u.station = s.station ∧ u.cfg = s.cfg
    ∧ u.recallUnit = s.recallUnit ∧ u.sequencer = s.sequencer ∧ u.crescendo = s.crescendo) {r : List WriteEntry} (hr : Asked u r) :
    Asked s r := by
  obtain ⟨hmemory, hstation, hcfg, hrecall, hsequencer, hcrescendo⟩ := hfields
  have hconfig : u.config = s.config := by simp [State.config, hcfg]
  refine hr.of_later (.inl hstation) (fun hc => ?_) (fun hp => hp.congr (by rw [hrecall]) hsequencer (by rw [hcrescendo])
    (by rw [hcrescendo]) hconfig) (by simp [State.bases, hmemory])
  simpa only [configured, hcfg, hstation, hmemory] using hc

theorem Proceeds.of_before {u : State} (h : Proceeds u t) (hu : SameGround s u) : Proceeds s t := by
  obtain ⟨hgoes, hstation⟩ := h
  obtain ⟨hmemory, hmotion, hst, hrest⟩ := hu
  have hgoes' := hgoes.mono (fun _ => Asked.of_fields ⟨hmemory, hst, hrest⟩) (service' := s.station = .service) fun hs => hst ▸ hs
  exact ⟨⟨hmemory ▸ hgoes'.moves, hmotion ▸ hgoes'.coils⟩, by rwa [StationGoes, ← hst]⟩

theorem lineEvent_proceeds (carries : LineFunction → Bool) (n : Nat) (v : Bool) (s : State) :
    Proceeds s (lineEvent carries n v s) := by
  unfold lineEvent
  split
  · have hf : s.functionOfLine n = (qualify n v s).functionOfLine n := by simp [State.functionOfLine]
    have hchange : Proceeds (qualify n v s) (handChange (s.functionOfLine n) v (qualify n v s)) :=
      .of_goes (hf ▸ handChange_goes v fun hc => configured_parameters hc n) (by simp) (handChange_playMoves _ v _)
    exact hchange.of_before (by simp [SameGround])
  · exact .of_same ⟨rfl, rfl, rfl⟩

theorem groupSample_proceeds (m : Nat) (contacts : Byte) (s : State) :
    Proceeds s
      (if s.cfg.isSome ∧ m < 48 then
        let t := (s.changedLines m contacts).foldl handLine (sampleLines m contacts s)
        if s.groupHasTrack m then handPair t else t
      else s) := by
  split
  · refine Proceeds.of_before (u := sampleLines m contacts s) ?_ (by simp [SameGround])
    have hlines := handLines_goes (service := (sampleLines m contacts s).station = .service) (s.changedLines m contacts)
      (sampleLines m contacts s)
    have hsupply := handLines_supply (s.changedLines m contacts) (sampleLines m contacts s)
    have hmoves := handLines_playMoves (s.changedLines m contacts) (sampleLines m contacts s)
    dsimp only
    split
    · exact .of_goes (hlines.trans (.of_same (by simp))) (by simpa using hsupply) (by simpa using hmoves)
    · exact .of_goes hlines hsupply hmoves
  · exact .of_same ⟨rfl, rfl, rfl⟩

/-- An entry into Restarting drops a clear, discards under Low2 what has not begun, and lets the next write begin (R61, R65, R116). -/
theorem enterRestarting_proceeds (cause : StartCause) (s : State) : Proceeds s (enterRestarting cause s) := by
  by_cases h : s.station = .off ∨ s.station = .restarting
  · rw [enterRestarting, if_pos h]
    exact .of_same ⟨rfl, rfl, rfl⟩
  · obtain ⟨hoff, hagain⟩ := not_or.1 h
    rw [enterRestarting_entered s cause hoff hagain]
    refine ⟨⟨?_, fun _ => ?_⟩, .inr (.inr ⟨rfl, rfl⟩)⟩
    · show MemoryMoves s.supply.low2 (Asked s) (s.station = .service) s.memory (begun s.supply.low2 { s.memory with
        clear := none, queue := if s.supply.low2 = true then s.memory.queue.take s.memory.begun else s.memory.queue })
      refine .tail ?_ .judged
      split
      · exact .tail (.single .dropped) .discarded
      · exact .single .dropped
    · exact .of_records (standAside_asideRecord ▸ standAside_leavesCoil) rfl

theorem mergeRegistration_proceeds (d : Nat) (a : Stamp) (x : StopSet) (s : State) : Proceeds s (mergeRegistration d a x s) := by
  refine .of_goes (.of_motion (by simp) fun hl => ?_) (by simp) (.inl (by simp))
  unfold mergeRegistration
  split
  · exact moveRecords_coilsKept (s := s.setImage _) (by simpa using hl)
      ((setTarget_leavesCoil _).ite (p := fun r => [d].contains r.d = true))
  · exact .refl _

theorem serviceWrite_proceeds {limit : Nat} (request slot : Nat) (c : Content) (s : State) (hlimit : limit < 16384) :
    Proceeds s (serviceWrite request limit slot c s) := by
  unfold serviceWrite
  repeat' split
  · exact .of_same (by simp [reply])
  · rename_i hs hrange _ t ht
    have hu := writeRequest_frame ht
    exact .of_goes (writeRequest_goes ht (asked_service request c hs (by omega))) (by simp [hu]) (.inl (by simp [hu]))
  · exact .of_same (by simp [reply])
  · exact .of_same (by simp [reply])

theorem serviceClear_proceeds (s : State) : Proceeds s (serviceClear s) := by
  refine .of_goes ?_ (by simp) (.inl (by simp))
  unfold serviceClear
  dsimp only
  split
  · rename_i hs
    set t := if s.memory.clear.isNone = true then noteReads [1, 30, 31] s else s with ht
    have hnoted : t.memory = s.memory ∧ t.motion = s.motion ∧ t.supply = s.supply := by
      rw [ht]
      split <;> simp
    obtain ⟨hmemory, hmotion, hsupply⟩ := hnoted
    split
    · rename_i c hc
      have hbegun : (reply 11 0 .taken none (beginWrite (t.setMemory { t.memory with
          clear := some c, clearSettled := 0, clearTotal := clearTotalOf c.layout }))).memory
            = begun s.supply.low2 { s.memory with clear := some c, clearSettled := 0, clearTotal := clearTotalOf c.layout } := by
        simp [reply, beginWrite_memory, hsupply, hmemory]
      exact .of_memory (hbegun ▸ .tail (.single (.cleared c hs hc)) .judged) (by simp [reply, hmotion])
    · exact .of_same (by simp [reply, hmemory, hmotion])
  · exact .of_same (by simp [reply])

theorem ifTarget_proceeds {target : Nat} {f : State → State} (h : Proceeds s (f s)) : Proceeds s (ifTarget target f s) := by
  unfold ifTarget
  split
  · exact h
  · exact .of_same ⟨rfl, rfl, rfl⟩

theorem dispatch_proceeds (origin : Nat) (f : Frame) (s : State) : Proceeds s (dispatch origin f s) := by
  cases f with
  | registrationChange d a x => exact mergeRegistration_proceeds d a x s
  | registrationRefresh d a x => exact mergeRegistration_proceeds d a x s
  | configurationRead target slot => exact ifTarget_proceeds (.of_same (by simp))
  | configurationWrite target slot c => exact ifTarget_proceeds (serviceWrite_proceeds 9 slot c s (by decide))
  | slotWrite target slot c => exact ifTarget_proceeds (serviceWrite_proceeds 10 slot c s (by decide))
  | memoryClear target => exact ifTarget_proceeds (serviceClear_proceeds s)
  | restart target => exact ifTarget_proceeds (enterRestarting_proceeds _ s)
  | crescendo | crescendoRepeat | heartbeat | faultNotice | serviceReply => exact .of_same (by simp [dispatch])

theorem receive_proceeds (origin : Nat) (f : Frame) (s : State) : Proceeds s (receive origin f s) := by
  have hended : SameGround s (frameEnded s) := by simp [SameGround, frameEnded]
  unfold receive
  dsimp only
  repeat' split
  · exact .of_before (u := frameEnded s) (.of_same (by simp)) hended
  · exact (dispatch_proceeds origin f (frameEnded s)).of_before hended
  · exact .of_same (by simp [frameEnded])
  · exact .of_same ⟨rfl, rfl, rfl⟩

/-- Join end asks for the last registration alone (R154, R155). -/
theorem joinEnd_proceeds (s : State) :
    Proceeds s
      (if s.station = .joining then
        let t := applyPolicy (s.setStart { s.start with joinMs := Config.joinMs })
        if t.consoleOn then enterAwake t else enterDormant t
      else s) := by
  split
  · rename_i hs
    set u := s.setStart { s.start with joinMs := Config.joinMs } with hu
    have hground : SameGround s u := by simp [SameGround, hu]
    have hplay : (applyPolicy u).station.inPlay = true := by simp [hu, hs, Station.inPlay]
    have hpolicy : Goes u.supply.low2 (Asked u) (u.station = .service) u (applyPolicy u) := by
      refine .of_motion (by simp) fun hl => ?_
      have hnoted : (noteReads u.policyReads u).motion = u.motion := by simp
      exact hnoted ▸ localChange_coilsKept (s := noteReads u.policyReads u) (by simpa using hl) _
    have hasked : ∀ r, Asked (applyPolicy u) r → Asked u r := fun _ => Asked.of_fields (by simp)
    dsimp only
    refine Proceeds.of_before ?_ hground
    split
    · exact .of_goes (hpolicy.then enterAwake_goes) (by simp) (.inr ⟨by simp [hu, hs, Station.inPlay], by simp [enterAwake, Station.inPlay]⟩)
    · exact .of_goes (hpolicy.then ((enterDormant_goes hplay).mono hasked id)) (by simp)
        (.inr ⟨by simp [hu, hs, Station.inPlay], by simp [enterDormant, Station.inPlay]⟩)
  · exact .of_same ⟨rfl, rfl, rfl⟩

end Commands

/-! ### The commands of the supply, the coils, the writes and the start -/

section Commands

variable {s t : State}

/-- A comparison of the supply that leaves Low2 in force releases nothing and starts nothing (R114, R156, R157). -/
theorem compareSupply_goes {asked : List WriteEntry → Prop} {service : Prop} (mv : Nat) (s : State) :
    Goes (compareSupply mv s).supply.low2 asked service s (compareSupply mv s) := by
  have hlow1 : ∀ {low2 : Bool} (u : State), Goes low2 asked service u (enterLow1 u) := fun u => .of_same (by simp)
  have hlow2 : ∀ {low2 : Bool} (u : State), Goes low2 asked service u (enterLow2 u) := fun u => by
    refine .of_memory ?_ (by simp)
    rw [enterLow2_eq]
    show MemoryMoves _ _ _ _ (lowMemory u)
    unfold lowMemory
    split
    · exact .single .discarded
    · exact .refl
  have hrelease : ∀ u : State, Goes false asked service u (releaseLow2 u) := fun u => by
    refine ⟨?_, fun h => by cases h⟩
    rw [releaseLow2_eq]
    dsimp only
    split
    · exact .single .judged
    · exact .refl
  have hrelease1 : ∀ u : State, Goes u.supply.low2 asked service u (releaseLow1 u) := fun u => by
    refine .of_motion (by simp) fun hl => ?_
    unfold releaseLow1
    split
    · exact .of_records (f := id) (fun _ => ⟨rfl, .inl rfl⟩)
        ((judgePulses_of_low2 (s := u.setSupply { u.supply with low1 := false }) hl).trans (List.map_id _).symm)
    · exact .refl _
  have hfinal : ∀ u : State, (if Config.low1Release < mv then releaseLow1 u else u).supply.low2 = u.supply.low2 := fun u => by
    split
    · rw [releaseLow1_eq]
    · rfl
  unfold compareSupply
  dsimp only
  rw [hfinal]
  have hentered : ∀ {low2 : Bool}, Goes low2 asked service s
      (if mv < Config.low2Entry then enterLow2 (if mv < Config.low1Entry then enterLow1 s else s)
        else if mv < Config.low1Entry then enterLow1 s else s) := by
    intro low2
    repeat' split
    · exact (hlow1 s).trans (hlow2 _)
    · exact hlow2 s
    · exact hlow1 s
    · exact .of_same ⟨rfl, rfl⟩
  have hlast : ∀ u : State, Goes u.supply.low2 asked service u (if Config.low1Release < mv then releaseLow1 u else u) := fun u => by
    split
    · exact hrelease1 u
    · exact .of_same ⟨rfl, rfl⟩
  by_cases h : Config.low2Release < mv
  · simp only [if_pos h]
    refine Goes.trans ?_ (hlast _)
    have hl : ∀ u : State, (releaseLow2 u).supply.low2 = false := fun u => by rw [releaseLow2_eq]
    rw [hl]
    exact hentered.trans (hrelease _)
  · simp only [if_neg h]
    exact hentered.trans (hlast _)

theorem supplyEvent_proceeds (crossed : Bool) (mv : Nat) (s : State) : Proceeds s (supplyEvent crossed mv s) := by
  unfold supplyEvent
  split
  · exact ⟨compareSupply_goes mv s, .inl (.inl (by simp))⟩
  · exact .of_same ⟨rfl, rfl, rfl⟩

/-- The end of a write's 4 ms: the slot is written, then the write settled and the next begun, or rewritten (R59). -/
theorem readback_moves {asked : List WriteEntry → Prop} {service : Prop} {f : Flight} (hf : s.memory.flight = some f)
    (found : Option SlotImage) : MemoryMoves s.supply.low2 asked service s.memory (readback found f s).memory := by
  have hwrote : MemoryMove s.supply.low2 asked service s.memory
      { s.memory with cells := writeSlotImage s.memory.cells f.slot (foundBy found f) } := .wrote f _ hf
  rw [readback, judgeReadback_eq]
  generalize SlotImage.passes (foundBy found f) = passes
  generalize (foundBy found f == slotOf f.content) = asWritten
  generalize writeSlotImage s.memory.cells f.slot (foundBy found f) = cells at hwrote ⊢
  split
  · have hmemory : (readbackNoted passes (!asWritten) s).memory = s.memory := by simp [readbackNoted]
    have hsupply : (readbackNoted passes (!asWritten) s).supply = s.supply := by simp [readbackNoted]
    rw [afterSettled]
    dsimp only
    rw [hmemory, hsupply, ← begun_settledBy_cells]
    exact .tail (.tail (.single hwrote) (.settled f hf)) .judged
  · exact .tail (.single hwrote) (.rewritten f hf)

/-- A refresh write begins, or the slot is passed over (R63). -/
theorem refreshWith_moves {asked : List WriteEntry → Prop} {service : Prop} (content : Option Content)
    (h : s.refreshMayBegin = true) : MemoryMoves s.supply.low2 asked service s.memory (refreshWith content s).memory := by
  obtain ⟨-, -, -, hflight, hlow2, -⟩ := (refreshMayBegin_iff s).1 h
  cases content with
  | some c => exact .single (.refreshed c hflight hlow2)
  | none =>
    rw [refreshWith, State.setMemory_memory]
    exact .single .passedOver

theorem enterJoining_broughtUp {u : State} {c : Configuration} (contacts : BitVec 384) (hs : s.station = .start)
    (hu : u.memory = s.memory) : BroughtUp s (enterJoining (acceptConfiguration c contacts u)) := by
  have hmemory : (enterJoining (acceptConfiguration c contacts u)).memory
      = { s.memory with partition := some (partitionOf c.layout), idle := 0 } := by
    simp [enterJoining, acceptConfiguration, hu]
  have hrecords : ∀ v : State, ∀ r ∈ (makeRecords v).motion.records, r.coil = none := fun v r hr => by
    obtain ⟨k, -, rfl⟩ := List.mem_map.1 hr
    rfl
  set w := acceptConfiguration c contacts u
  have hmotion : (enterJoining w).motion = (makeRecords (handHeartbeat (noticesAtStartEnd
      ((w.setStation .joining).setStart { w.start with joinMs := 0, heartbeatMs := 0 })))).motion := by simp [enterJoining]
  exact ⟨hs, by simp [enterJoining], ⟨_, hmemory⟩, fun r hr => hrecords _ r (hmotion ▸ hr)⟩

theorem leaveStart_memoryStep (strap : Bool) (contacts : BitVec 384) (hs : s.station = .start) :
    MemoryStep s (leaveStart strap contacts s) := by
  have hunplayed : ∀ (st : Station) (u : State), (st = .service ∨ st = .unconfigured) → u.memory = s.memory → u.motion = s.motion →
      MemoryStep s (enterUnplayed st u) := fun st u hst hm hmo =>
    .inl ⟨.of_same (by simp [hm, hmo]), .inr (.inl ⟨hs, by simpa [enterUnplayed] using hst⟩)⟩
  unfold leaveStart
  dsimp only
  repeat' split
  · exact hunplayed _ _ (.inl rfl) (by simp) (by simp)
  · exact .inr (.inr (enterJoining_broughtUp contacts hs (by simp)))
  · exact hunplayed _ _ (.inr rfl) (by simp) (by simp)

theorem cellsAfterLoss_wf (torn : TornWrite) {m : MemoryController} (h : Memory.wf m.cells = true) :
    Memory.wf (cellsAfterLoss torn m) = true := by
  unfold cellsAfterLoss
  split
  · exact writeSlotImage_wf h _ _
  · exact h

/-- Every command moves the memory as the station asks, renews the station, or brings a configuration into force. -/
theorem exec_memoryStep {c : Instr} {s t : State} (h : exec c s = .next t) : MemoryStep s t := by
  have next : ∀ {u : State}, exec c s = .next u → MemoryStep s u → MemoryStep s t := fun hu hP =>
    Host.Outcome.next.inj (hu.symm.trans h) ▸ hP
  cases c with
  | powerOn mv =>
    refine next rfl ?_
    split
    · exact .inr (.inl ⟨s.memory.cells, id, rfl, rfl⟩)
    · exact .of_same ⟨rfl, rfl, rfl⟩
  | lossOfPower torn =>
    refine next rfl ?_
    split
    · exact .of_same ⟨rfl, rfl, rfl⟩
    · exact .inr (.inl ⟨_, cellsAfterLoss_wf torn, rfl, rfl⟩)
  | configurationCheck contacts =>
    refine next rfl ?_
    split
    · split
      · exact leaveStart_memoryStep _ contacts ‹_›
      · exact .of_same ⟨rfl, rfl, rfl⟩
    · exact .of_same ⟨rfl, rfl, rfl⟩
  | startAfterRestarting =>
    refine next rfl ?_
    split
    · exact .inr (.inl ⟨s.memory.cells, id, rfl, rfl⟩)
    · exact .of_same ⟨rfl, rfl, rfl⟩
  | restartLinePress =>
    refine next rfl ?_
    split
    · exact .of_same ⟨rfl, rfl, rfl⟩
    · exact .inl ((enterRestarting_proceeds _ _).of_before ⟨rfl, rfl, rfl, rfl, rfl, rfl, rfl⟩)
  | fixedLineSample restart strap =>
    refine next rfl ?_
    dsimp only
    repeat' split
    · exact .of_same ⟨rfl, rfl, rfl⟩
    · exact .inl ((enterRestarting_proceeds _ _).of_before ⟨rfl, rfl, rfl, rfl, rfl, rfl, rfl⟩)
    · exact .of_same ⟨rfl, rfl, rfl⟩
  | stopSenseChange | generalPiston | divisionalPiston | setPress | setRelease | generalCancel | divisionCancelPress
  | divisionCancelRelease | levelUp | levelDown | protect | sequencerNext | sequencerPrevious | tutti | crescendoProgram
  | crescendoSet | lineRelease | consoleKey | faultAcknowledge => exact next rfl (.inl (lineEvent_proceeds _ _ _ s))
  | indexEdge =>
    refine next rfl ?_
    split
    · exact .inl (lineEvent_proceeds _ _ _ s)
    · exact .of_same ⟨rfl, rfl, rfl⟩
  | encoderHandover a b =>
    refine next rfl ?_
    split
    · exact .of_same (by simp)
    · exact .of_same ⟨rfl, rfl, rfl⟩
  | groupSample m contacts => exact next rfl (.inl (groupSample_proceeds m contacts s))
  | low1Entry | low1Release | low2Entry | low2Release => exact next rfl (.inl (supplyEvent_proceeds _ _ s))
  | pulseEnd d i =>
    simp only [exec, execPulseEnd] at h
    repeat' split at h
    all_goals cases h
    · refine .inl (.of_goes (.of_motion (by simp) fun hl => ?_) (by simp) (.inl (by simp)))
      have hended := (endPulse_leavesCoil s.config.settle).onRecord d i
      rw [(by simp : ∀ u : State, (reportNoCoil u).motion = u.motion)]
      exact .of_records hended (judgePulses_of_low2 (s := s.setMotion _) hl)
    all_goals exact .of_same ⟨rfl, rfl, rfl⟩
  | settleEnd d i =>
    simp only [exec, execSettleEnd] at h
    repeat' split at h
    all_goals cases h
    · refine .inl (.of_goes (.of_motion (by simp) fun hl => ?_) (by simp) (.inl (by simp)))
      simpa using moveRecords_coilsKept hl (judge_leavesCoil.onRecord d i)
    all_goals exact .of_same ⟨rfl, rfl, rfl⟩
  | writeReadback found =>
    simp only [exec, execWriteReadback] at h
    repeat' split at h
    all_goals cases h
    · exact .of_same ⟨rfl, rfl, rfl⟩
    · exact .inl (.of_goes (.of_memory (readback_moves ‹_› found) (by simp)) (by simp) (.inl (by simp)))
  | retentionRefreshWrite =>
    simp only [exec, execRetentionRefreshWrite] at h
    repeat' split at h
    all_goals cases h
    · exact .inl (.of_goes (.of_memory (refreshWith_moves _ ‹_›) (by simp)) (by simp) (.inl (by simp)))
    · exact .of_same ⟨rfl, rfl, rfl⟩
  | idleReady =>
    refine next rfl ?_
    split
    · exact .inl (.of_goes (.of_memory (.single (.idled _)) rfl) rfl (.inl rfl))
    · exact .of_same ⟨rfl, rfl, rfl⟩
  | peerSilent | peerAbsent =>
    simp only [exec, execPeerSilent, execPeerAbsent] at h
    repeat' split at h
    all_goals cases h
    all_goals exact .of_same (by simp)
  | heartbeatPeriod =>
    refine next rfl ?_
    dsimp only
    repeat' split
    · exact .of_same (by simp)
    · exact .of_same (by simp)
    · exact .of_same ⟨rfl, rfl, rfl⟩
  | joinEnd => exact next rfl (.inl (joinEnd_proceeds s))
  | registrationChange | registrationRefresh | crescendo | crescendoRepeatReceived | heartbeat | faultNoticeReceived
  | serviceReplyReceived | configurationRead | configurationWrite | slotWrite | memoryClear | restart =>
    exact next rfl (.inl (receive_proceeds _ _ s))
  | numberClash =>
    refine next rfl ?_
    split
    · exact .of_same (by simp [frameEnded])
    · exact .of_same ⟨rfl, rfl, rfl⟩
  | frameDiscarded framing bytes =>
    refine next rfl ?_
    split
    · exact .inl (receive_proceeds _ _ s)
    · unfold Machine.discard
      dsimp only
      repeat' split
      all_goals exact .of_same ⟨rfl, rfl, rfl⟩
  | lineIdle | lineBusy | sendComplete | sendAbort =>
    refine next rfl ?_
    split
    all_goals exact .of_same ⟨rfl, rfl, rfl⟩
  | sendBegin k =>
    refine next rfl ?_
    repeat' split
    all_goals exact .of_same ⟨rfl, rfl, rfl⟩
  | lampAnswerEnd l => exact next rfl (.of_same ⟨rfl, rfl, rfl⟩)

theorem tickMemory_moves {low2 : Bool} {asked : List WriteEntry → Prop} {service : Prop} (st : Station) (m : MemoryController) :
    MemoryMoves low2 asked service m (tickMemory st m) :=
  .tail (.single (.idled (if st.inPlay then m.idle + 1 else m.idle))) .ticked

theorem tick_memoryStep (s : State) : MemoryStep s (tick s) := by
  unfold tick
  split
  · exact .of_same ⟨rfl, rfl, rfl⟩
  · exact .inl (.of_goes ⟨tickMemory_moves _ _, fun _ => .of_records (f := MotionRecord.tick) (fun _ => ⟨rfl, .inl rfl⟩) rfl⟩ rfl
      (.inl rfl))

end Commands

/-! ### What every step keeps -/

/-- A step is a command with the rest of the queue behind it, or one millisecond. -/
theorem step_memoryStep {s t : State} (h : step s = .next t) : MemoryStep s t := by
  unfold step at h
  split at h
  · rename_i c rest _
    rcases exec_memoryStep h with hp | hr | hb
    · exact .inl (hp.of_before ⟨rfl, rfl, rfl, rfl, rfl, rfl, rfl⟩)
    · exact .inr (.inl hr)
    · exact .inr (.inr hb)
  · obtain rfl := Host.Outcome.next.inj h
    exact tick_memoryStep s

/-- Settles O6: each move of the memory keeps the canonical form. -/
theorem stepKeepsTheArrayCanonical : Obligations.StepKeepsTheArrayCanonical := by
  unfold Obligations.StepKeepsTheArrayCanonical
  intro s t hs h
  rcases step_memoryStep h with hp | ⟨cells, hcells, hmemory, -⟩ | ⟨-, -, ⟨p, hmemory⟩, -⟩
  · exact hp.goes.moves.keeps (P := fun m => Memory.wf m.cells = true) (fun _ _ => MemoryMove.wf) hs
  · rw [hmemory]
    exact hcells hs
  · rwa [hmemory]

/-- A memory renewed has nothing queued and nothing in flight. -/
theorem queueOk_renewed (cells : Memory) : queueOk { State.reset.memory with cells := cells } :=
  ⟨Nat.zero_le _, List.nodup_nil, fun _ hf => by cases hf⟩

/-- Settles O8: each move of the memory keeps the queue's law. -/
theorem stepKeepsTheWriteQueue : Obligations.StepKeepsTheWriteQueue := by
  unfold Obligations.StepKeepsTheWriteQueue
  intro s t hs h
  rw [writesOk_iff] at hs ⊢
  rcases step_memoryStep h with hp | ⟨cells, -, hmemory, -⟩ | ⟨-, -, ⟨p, hmemory⟩, -⟩
  · exact hp.goes.moves.keeps (fun _ _ => MemoryMove.keeps_queueOk) hs
  · exact hmemory ▸ queueOk_renewed cells
  · exact hmemory ▸ hs.congr rfl rfl

theorem regionsOk_iff (s : State) : regionsOk s ↔
    placesOk s.bases s.memory ∧ (s.station = .start ∨ s.station = .off → s.memory.queue = [])
      ∧ (s.memory.clear.isSome = true → s.station = .service) := by
  simp only [regionsOk, placesOk]
  tauto

/-- The moves of a command leave the partition. -/
theorem MemoryMove.partition {low2 : Bool} {asked : List WriteEntry → Prop} {service : Prop} {m n : MemoryController}
    (h : MemoryMove low2 asked service m n) : n.partition = m.partition := by
  cases h with
  | settled f hf => exact settledBy_partition f.kind m
  | _ => rfl

theorem Proceeds.bases {s t : State} (h : Proceeds s t) : t.bases = s.bases := by
  have hpartition : t.memory.partition = s.memory.partition :=
    h.goes.moves.keeps (P := fun m => m.partition = s.memory.partition) (fun _ _ hmove hm => hmove.partition.trans hm) rfl
  rw [State.bases, State.bases, hpartition]

/-- Start and the power off ask for no write, and a command that enters neither leaves what follows free (R63, R165). -/
theorem Proceeds.queue_nil {s t : State} (h : Proceeds s t) (hs : s.station = .start ∨ s.station = .off → s.memory.queue = [])
    (ht : t.station = .start ∨ t.station = .off) : t.memory.queue = [] := by
  have hstation : t.station = s.station := by
    rcases h.station with (he | ⟨-, hplay⟩) | ⟨-, hunplayed⟩ | ⟨hrestarting, -⟩
    · exact he
    · rcases ht with ht | ht <;> simp [ht, Station.inPlay] at hplay
    · rcases ht with ht | ht <;> simp [ht] at hunplayed
    · rcases ht with ht | ht <;> simp [ht] at hrestarting
  rw [hstation] at ht
  have hasked : ∀ r, ¬ Asked s r := fun r ⟨hstart, hoff, _⟩ => ht.elim hstart hoff
  exact h.goes.moves.keeps (P := fun m => m.queue = []) (fun _ _ => MemoryMove.keeps_empty hasked) (hs ht)

/-- A clear stands in Service alone: it is taken there, and leaving Service drops it (R64, R65). -/
theorem Proceeds.clear_service {s t : State} (h : Proceeds s t) (hs : s.memory.clear.isSome = true → s.station = .service)
    (ht : t.memory.clear.isSome = true) : t.station = .service := by
  by_cases hservice : s.station = .service
  · rcases h.station with (he | ⟨hplay, -⟩) | ⟨hstart, -⟩ | ⟨-, hclear⟩
    · exact he.trans hservice
    · simp [hservice, Station.inPlay] at hplay
    · simp [hservice] at hstart
    · simp [hclear] at ht
  · have hnone : s.memory.clear = none := by
      cases hc : s.memory.clear with
      | none => rfl
      | some c => exact absurd (hs (by simp [hc])) hservice
    have hkept : t.memory.clear = none :=
      h.goes.moves.keeps (P := fun m => m.clear = none) (fun _ _ => MemoryMove.keeps_clear_none hservice) hnone
    simp [hkept] at ht

/-- Settles O9: the requests that a station in its ranges asks for stand in their regions, and every move keeps what stands there. -/
theorem stepKeepsWritesInTheirRegions : Obligations.StepKeepsWritesInTheirRegions := by
  unfold Obligations.StepKeepsWritesInTheirRegions
  intro s t hc hl hcrescendo _ hs h
  obtain ⟨-, -, -, hprogram, hstage, -⟩ := hcrescendo
  rw [regionsOk_iff] at hs ⊢
  obtain ⟨hplaces, hqueue, hclear⟩ := hs
  rcases step_memoryStep h with hp | ⟨cells, -, hmemory, -⟩ | ⟨hstart, hjoining, ⟨p, hmemory⟩, -⟩
  · have hasked : ∀ r, Asked s r → requestOk s.bases r := fun r hr => hr.2.2 hc ⟨hl, hprogram, hstage⟩
    refine ⟨?_, hp.queue_nil hqueue, hp.clear_service hclear⟩
    rw [hp.bases]
    exact hp.goes.moves.keeps (fun _ _ => MemoryMove.keeps_placesOk hasked) hplaces
  · rw [hmemory]
    exact ⟨⟨by simp [State.reset], fun _ hf => (by cases hf), by simp [State.reset, Config.slotCount], fun _ hf => by cases hf⟩,
      fun _ => rfl, fun hf => by cases hf⟩
  · obtain ⟨-, hflight, hretention, hclearOk⟩ := hplaces
    have hempty : t.memory.queue = [] := by rw [hmemory]; exact hqueue (.inl hstart)
    have hnone : t.memory.clear.isSome = true → s.station = .service := by rw [hmemory]; exact hclear
    refine ⟨⟨by simp [hempty], ?_, ?_, ?_⟩, fun _ => hempty, fun hsome => by simp [hnone hsome] at hstart⟩
    all_goals rw [hmemory]
    · exact hflight
    · exact hretention
    · exact hclearOk

/-- Settles O15: under Low2 no move begins a write and no pulse starts. -/
theorem nothingBeginsUnderLow2 : Obligations.NothingBeginsUnderLow2 := by
  unfold Obligations.NothingBeginsUnderLow2
  intro c s t h _ ht
  rcases exec_memoryStep h with ⟨⟨hmoves, hcoils⟩, -⟩ | ⟨cells, -, hmemory, hrecords⟩ | ⟨-, -, ⟨p, hmemory⟩, hrecords⟩
  · rw [ht] at hmoves
    have hflight : SameFlight s.memory t.memory :=
      hmoves.keeps (P := SameFlight s.memory) (fun _ _ => MemoryMove.sameFlight) fun f hf => ⟨f, hf, rfl, rfl, rfl⟩
    exact ⟨hcoils ht, hflight⟩
  · refine ⟨fun r hr => by simp [hrecords] at hr, fun f hf => ?_⟩
    rw [hmemory] at hf
    cases hf
  · refine ⟨fun r hr hcoil => by simp [hrecords r hr] at hcoil, fun f hf => ⟨f, ?_, rfl, rfl, rfl⟩⟩
    rwa [hmemory] at hf

/-! ### The bits of what the station forms (R174) -/

/-- A field laid from byte i on. -/
theorem getLsbD_placed {w : Nat} (i : Nat) (x : BitVec w) (k : Nat) :
    (Machine.placed i x).getLsbD k = (decide (8 * i ≤ k) && decide (k < 496) && x.getLsbD (k - 8 * i)) := by
  unfold Machine.placed
  rw [BitVec.getLsbD_shiftLeft, BitVec.getLsbD_setWidth]
  by_cases h : k < 496
  · have hlt : k - 8 * i < 496 := by omega
    simp only [h, hlt, decide_true, Bool.true_and, Bool.and_true, ← decide_not, Nat.not_lt]
  · simp [h]

/-- Sets one after another: bit k is bit k mod 48 of set k / 48. -/
theorem getLsbD_packSets (l : Sets) (k : Nat) :
    (packSets l).getLsbD k = (decide (k < 496) && (setAt l (k / 48)).getLsbD (k % 48)) := by
  induction l generalizing k with
  | nil => simp [packSets, setAt]
  | cons x rest ih =>
    rw [packSets, BitVec.getLsbD_or, getLsbD_placed, BitVec.getLsbD_shiftLeft, ih]
    by_cases h : k < 48
    · simp [h, setAt, Nat.div_eq_of_lt h, Nat.mod_eq_of_lt h]
    · have hdiv : k / 48 = (k - 48) / 48 + 1 := by omega
      have hmod : (k - 48) % 48 = k % 48 := by omega
      have hbeyond : x.getLsbD k = false := BitVec.getLsbD_of_ge x k (Nat.le_of_not_lt h)
      by_cases hk : k < 496
      · have hk' : k - 48 < 496 := by omega
        simp [h, hdiv, hmod, hbeyond, hk, hk', setAt]
      · simp [hk]

/-- The set of division d stands 48 d bits from where the sets begin. -/
theorem extract_packSets (l : Sets) {d : Nat} (hd : d < 8) : (packSets l).extractLsb' (48 * d) 48 = setAt l d := by
  refine BitVec.eq_of_getLsbD_eq fun k hk => ?_
  have hdiv : (48 * d + k) / 48 = d := by omega
  have hmod : (48 * d + k) % 48 = k := by omega
  have hlt : 48 * d + k < 496 := by omega
  rw [BitVec.getLsbD_extractLsb', getLsbD_packSets, hdiv, hmod]
  simp [hk, hlt]

/-- One set for each division gives a list of eight back. -/
theorem setsOf_setAt {l : Sets} (h : l.length = 8) : setsOf (setAt l) = l := by
  refine List.ext_getElem? fun k => ?_
  by_cases hk : k < 8
  · simp [setsOf, setAt, hk, List.getElem?_eq_getElem (h ▸ hk), List.getD_eq_getElem?_getD]
  · simp [setsOf, hk, h]

/-- The sets of a stage, tutti or last registration record read back (R174). -/
theorem unpackSets_setsContent {l : Sets} (h : l.length = 8) : unpackSets (setsContent l) 0 = l := by
  conv_rhs => rw [← setsOf_setAt h]
  refine List.map_congr_left fun d hd => ?_
  have hd := List.mem_range.1 hd
  rw [Content.stopSet, show 8 * (0 + 6 * d) = 48 * d by omega, setsContent, extract_packSets _ hd, setAt_setsOf _ hd]

/-- A piston record reads back (R174). -/
theorem recordOf_content {r : Record} (h : r.sets.length = 8) : recordOf (Record.content r) = r := by
  have hscope : Content.byte (Record.content r) 0 = r.scope := by
    refine BitVec.eq_of_getLsbD_eq fun k hk => ?_
    have hlt : k < 496 := by omega
    rw [Content.byte, BitVec.getLsbD_extractLsb', Record.content, BitVec.getLsbD_or, getLsbD_placed, BitVec.getLsbD_shiftLeft]
    simp [hk, hlt]
  have hsets : unpackSets (Record.content r) 1 = r.sets := by
    conv_rhs => rw [← setsOf_setAt h]
    refine List.map_congr_left fun d hd => ?_
    have hd := List.mem_range.1 hd
    refine BitVec.eq_of_getLsbD_eq fun k hk => ?_
    have hlt : 8 * (1 + 6 * d) + k < 496 := by omega
    have hshift : 8 * (1 + 6 * d) + k - 8 = 48 * d + k := by omega
    have hset := congrArg (·.getLsbD k) (extract_packSets (setsOf (setAt r.sets)) hd)
    simp only [BitVec.getLsbD_extractLsb', hk, decide_true, Bool.true_and, setAt_setsOf _ hd] at hset
    rw [Content.stopSet, BitVec.getLsbD_extractLsb', Record.content, BitVec.getLsbD_or, getLsbD_placed, BitVec.getLsbD_shiftLeft,
      hshift, hset, BitVec.getLsbD_of_ge r.scope _ (by omega)]
    simp [hk, hlt]
    omega
  rw [recordOf, hscope, hsets]

/-- The protection flags of the levels that exist, the others open (R48). -/
theorem getLsbD_protectionContent (levels : Nat) (flags : BitVec 128) (i : Nat) :
    (protectionContent levels flags).getLsbD i = (decide (i < levels) && flags.getLsbD i) := by
  rw [protectionContent, getLsbD_placed, BitVec.getLsbD_and, BitVec.getLsbD_ofNat, Nat.testBit_two_pow_sub_one]
  by_cases hi : i < 128
  · have hlt : i < 496 := by omega
    simp [hi, hlt, Bool.and_comm]
  · simp [BitVec.getLsbD_of_ge flags i (Nat.le_of_not_lt hi)]

/-! ### Sequence slots (R68, R69, R174) -/

/-- Entries of three bytes, one after another: bit k is bit k mod 24 of entry k / 24. -/
theorem getLsbD_entries (f : Nat → BitVec 24) (n k : Nat) :
    ((List.range n).foldl (fun c place => c ||| Machine.placed (3 * place) (f place)) 0#496).getLsbD k
      = (decide (k < 24 * n) && decide (k < 496) && (f (k / 24)).getLsbD (k % 24)) := by
  induction n with
  | zero => simp
  | succ n ih =>
    rw [List.range_succ, List.foldl_append, List.foldl_cons, List.foldl_nil, BitVec.getLsbD_or, ih, getLsbD_placed]
    by_cases hbelow : k < 24 * n
    · have h1 : k < 24 * (n + 1) := by omega
      have h2 : ¬ 8 * (3 * n) ≤ k := by omega
      simp [hbelow, h1, h2]
    · by_cases hin : k < 24 * (n + 1)
      · have h2 : 8 * (3 * n) ≤ k := by omega
        have hdiv : k / 24 = n := by omega
        have hmod : k - 8 * (3 * n) = k % 24 := by omega
        simp [hbelow, hin, h2, hdiv, hmod]
      · have hbeyond : (f n).getLsbD (k - 8 * (3 * n)) = false := BitVec.getLsbD_of_ge _ _ (by omega)
        simp [hbelow, hin, hbeyond]

/-- Byte i of entry place of a sequence slot, as a number (R174). -/
theorem number_sequenceContent (steps : List SequenceStep) (j : Nat) {place i : Nat} (hp : place < 16) (hi : i < 3) :
    Content.number (sequenceContent steps j) (3 * place + i)
      = (stepBytes steps[16 * j + place]?).toNat / 2 ^ (8 * i) % 256 := by
  have hbyte : Content.byte (sequenceContent steps j) (3 * place + i)
      = (stepBytes steps[16 * j + place]?).extractLsb' (8 * i) 8 := by
    refine BitVec.eq_of_getLsbD_eq fun k hk => ?_
    have hdiv : (8 * (3 * place + i) + k) / 24 = place := by omega
    have hmod : (8 * (3 * place + i) + k) % 24 = 8 * i + k := by omega
    have h1 : 8 * (3 * place + i) + k < 24 * 16 := by omega
    have h2 : 8 * (3 * place + i) + k < 496 := by omega
    rw [Content.byte, BitVec.getLsbD_extractLsb', BitVec.getLsbD_extractLsb', sequenceContent,
      getLsbD_entries (fun place => stepBytes steps[16 * j + place]?), hdiv, hmod, decide_eq_true h1, decide_eq_true h2]
    rfl
  rw [Content.number, hbyte, BitVec.extractLsb'_toNat, Nat.shiftRight_eq_div_pow]

/-- An entry by its kind byte: one of the three kinds, or none (R69, R174). -/
theorem stepAt_eq (c : Content) (place : Nat) : stepAt c place =
    if Content.number c (3 * place) = 1 then some (.general (Content.number c (3 * place + 1)))
    else if Content.number c (3 * place) = 2 then
      some (.divisional (Content.number c (3 * place + 1)) (Content.number c (3 * place + 2)))
    else if Content.number c (3 * place) = 3 then some .generalCancel else none := by
  unfold stepAt
  dsimp only
  split <;> simp_all

/-- A step's parameters fit their bytes (R174). -/
def fitsBytes : SequenceStep → Prop
  | .general g => g < 256
  | .divisional d n => d < 256 ∧ n < 256
  | .generalCancel => True

/-- The entries of a sequence slot read back, none beyond the list (R174). -/
theorem stepAt_sequenceContent {steps : List SequenceStep} (j : Nat) {place : Nat} (hp : place < 16)
    (hfits : ∀ x ∈ steps, fitsBytes x) : stepAt (sequenceContent steps j) place = steps[16 * j + place]? := by
  have h0 := number_sequenceContent steps j (i := 0) hp (by decide)
  have h1 := number_sequenceContent steps j (i := 1) hp (by decide)
  have h2 := number_sequenceContent steps j (i := 2) hp (by decide)
  simp only [Nat.add_zero, Nat.mul_zero, Nat.pow_zero, Nat.div_one, Nat.reduceMul, Nat.reducePow] at h0 h1 h2
  rw [stepAt_eq, h0, h1, h2]
  cases hx : steps[16 * j + place]? with
  | none => simp [stepBytes]
  | some x =>
    have hfit := hfits x (List.mem_of_getElem? hx)
    cases x with
    | general g =>
      have hg : g < 256 := hfit
      have hbytes : (stepBytes (some (.general g))).toNat = 1 + 256 * g := by
        simp only [stepBytes, BitVec.toNat_ofNat]
        omega
      have hkind : (1 + 256 * g) % 256 = 1 := by omega
      have hparameter : (1 + 256 * g) / 256 % 256 = g := by omega
      simp [hbytes, hkind, hparameter]
    | divisional d n =>
      obtain ⟨hd, hn⟩ : d < 256 ∧ n < 256 := hfit
      have hbytes : (stepBytes (some (.divisional d n))).toNat = 2 + 256 * d + 65536 * n := by
        simp only [stepBytes, BitVec.toNat_ofNat]
        omega
      have hkind : (2 + 256 * d + 65536 * n) % 256 = 2 := by omega
      have hfirst : (2 + 256 * d + 65536 * n) / 256 % 256 = d := by omega
      have hsecond : (2 + 256 * d + 65536 * n) / 65536 % 256 = n := by omega
      simp [hbytes, hkind, hfirst, hsecond]
    | generalCancel => simp [stepBytes]

/-- The steps before the first none are the list's entries up to it (R69). -/
theorem stepsBeforeNone_some (l : List (Option SequenceStep)) : (stepsBeforeNone l).map some = l.takeWhile Option.isSome := by
  induction l with
  | nil => rfl
  | cons x rest ih =>
    cases x with
    | none => rfl
    | some x => simpa [stepsBeforeNone] using ih

/-- Blocks of sixteen one after another, by place. -/
theorem flatMap_sixteens {α : Type} (g : Nat → Nat → α) (n : Nat) :
    ((List.range n).flatMap fun j => (List.range 16).map (g j)) = (List.range (16 * n)).map fun p => g (p / 16) (p % 16) := by
  induction n with
  | zero => rfl
  | succ n ih =>
    rw [List.range_succ (n := n), List.flatMap_append, ih, Nat.mul_succ, List.range_add, List.map_append, List.map_map, List.flatMap_singleton]
    congr 1
    refine List.map_congr_left fun k hk => ?_
    have hk := List.mem_range.1 hk
    simp only [Function.comp]
    congr 1
    all_goals omega

/-- A slot's sixteen entries, none throughout where the slot fails (R69). -/
theorem entriesOfSlot_eq (s : State) (n : Nat) :
    s.entriesOfSlot n = (List.range 16).map fun k => (newest s.memory n).bind fun c => stepAt c k := by
  unfold State.entriesOfSlot
  cases newest s.memory n with
  | none => rfl
  | some c => rfl

/-- A level's list is its entries up to the first none (R69). -/
theorem storedSteps_entries (s : State) (level : Nat) :
    (s.storedSteps level).map some =
      ((List.range (16 * s.config.layout.sequenceSlots)).map fun p =>
        (newest s.memory (sequenceSlot s.bases s.config.layout level (p / 16))).bind fun c => stepAt c (p % 16)).takeWhile
          Option.isSome := by
  rw [State.storedSteps, stepsBeforeNone_some, State.sequenceSlots, List.flatMap_map, ← flatMap_sixteens
    (fun j k => (newest s.memory (sequenceSlot s.bases s.config.layout level j)).bind fun c => stepAt c k)]
  simp only [entriesOfSlot_eq]

/-! ### The newest content of a slot (R47, R55) -/

/-- The check of a slot of the array, read from its bits (R172, R174). -/
theorem arrayContent_eq (m : Memory) (n : Nat) :
    arrayContent m n =
      if crc ((List.range 62).map fun b => (readSlotImage m n).extractLsb' (8 * b) 8) = (readSlotImage m n).extractLsb' 496 16
      then some ((readSlotImage m n).extractLsb' 0 496) else none := by
  generalize hx : readSlotImage m n = x
  have hbytes : Content.bytes (SlotImage.content x) = (List.range 62).map fun b => x.extractLsb' (8 * b) 8 := by
    refine List.map_congr_left fun b hb => BitVec.eq_of_getLsbD_eq fun k hk => ?_
    have hlt : 8 * b + k < 496 := by have := List.mem_range.1 hb; omega
    simp [Content.byte, SlotImage.content, hk, hlt]
  simp only [arrayContent, hx, SlotImage.passes, hbytes, beq_iff_eq]
  rfl

/-- A byte of a slot as the array holds it (R46). -/
theorem extract_readSlotImage (m : Memory) (n : Nat) {b : Nat} (hb : b < 64) :
    (readSlotImage m n).extractLsb' (8 * b) 8 = Memory.read m (64 * n + b) := by
  refine BitVec.eq_of_getLsbD_eq fun k hk => ?_
  have hdiv : (8 * b + k) / 8 = b := by omega
  have hmod : (8 * b + k) % 8 = k := by omega
  rw [BitVec.getLsbD_extractLsb', getLsbD_readSlotImage _ _ _ (by omega), hdiv, hmod]
  simp [hk]

/-- The waiting entry of a slot is the newest content, one at most being there (R55, R56). -/
theorem newest_waiting {m : MemoryController} {e : WriteEntry} (hnodup : (m.waiting.map (·.slot)).Nodup) (he : e ∈ m.waiting) :
    newest m e.slot = some e.content := by
  have hfind : m.waiting.find? (fun x => x.slot == e.slot) = some e := by
    cases hx : m.waiting.find? (fun x => x.slot == e.slot) with
    | none => exact absurd (beq_self_eq_true e.slot) (List.find?_eq_none.1 hx e he)
    | some x =>
      have hslot : x.slot = e.slot := by simpa using List.find?_some hx
      rw [List.inj_on_of_nodup_map hnodup (List.mem_of_find?_eq_some hx) he hslot]
  rw [newest, hfind]

theorem find_waiting_none {m : MemoryController} {n : Nat} (h : ∀ e ∈ m.waiting, e.slot ≠ n) :
    m.waiting.find? (fun x => x.slot == n) = none :=
  List.find?_eq_none.2 fun e he hn => h e he (beq_iff_eq.1 hn)

/-- Without a waiting entry the write in flight has the newest content of its slot (R55). -/
theorem newest_flight {m : MemoryController} {f : Flight} (h : ∀ e ∈ m.waiting, e.slot ≠ f.slot) (hf : m.flight = some f) :
    newest m f.slot = some f.content := by
  simp only [newest, find_waiting_none h, hf, if_true]

/-- Without a write of it, waiting or in flight, the array has a slot's newest content (R47, R55). -/
theorem newest_array {m : MemoryController} {n : Nat} (h : ∀ e ∈ m.waiting, e.slot ≠ n) (hflight : ∀ f, m.flight = some f → f.slot ≠ n) :
    newest m n = arrayContent m.cells n := by
  cases hf : m.flight with
  | none => simp only [newest, find_waiting_none h, hf]
  | some f => simp only [newest, find_waiting_none h, hf, if_neg (hflight f hf)]

/-- The entries not yet begun: all but the head while the head is the write in flight (R56, R57). -/
theorem waiting_eq (m : MemoryController) :
    m.waiting = match m.flight with
      | some f => if f.kind = FlightKind.queue then m.queue.tail else m.queue
      | none => m.queue := by
  unfold MemoryController.waiting MemoryController.begun
  cases m.flight with
  | none => rfl
  | some f =>
    show m.queue.drop (if f.kind = .queue then 1 else 0) = if f.kind = .queue then m.queue.tail else m.queue
    split
    · exact List.drop_one
    · exact List.drop_zero

/-! ### The slots and contents of a clear (R54, R65) -/

/-- A clear's slots rise from one to the next (R54). -/
theorem clearSlot_rises {c : Clear} (hfits : c.layout.fits = true) (hp : c.partition = partitionOf c.layout) {j k : Nat} (hjk : j < k) :
    clearSlot c j < clearSlot c k := by
  rw [clearSlot_eq hp, clearSlot_eq hp]
  rw [fits_iff] at hfits
  repeat' split
  all_goals omega

/-- Place k of the level region in a clear (R49, R65). -/
theorem clearSlot_level {c : Clear} (hp : c.partition = partitionOf c.layout) {k : Nat} (hk : k < c.layout.levels * c.layout.size) :
    clearSlot c (2 + k) = 32 + k := by
  rw [clearSlot_eq hp, if_neg (by omega), if_pos (by omega)]
  omega

/-- Place k of the sequence and crescendo regions, which end the array, in a clear (R49, R65). -/
theorem clearSlot_above {c : Clear} (hp : c.partition = partitionOf c.layout) (k : Nat) :
    clearSlot c (2 + c.layout.levels * c.layout.size + k)
      = 16384 - (clearTotalOf c.layout - 2 - c.layout.levels * c.layout.size) + k := by
  rw [clearSlot_eq hp, if_neg (by omega), if_neg (by omega)]
  unfold clearTotalOf at *
  omega

/-- The place of divisional n of division d belongs to division d (R51). -/
theorem divisionalOwner_eq {l : List Nat} {d k n : Nat} (d₀ : Nat) (hd : l[d]? = some k) (hn : n < k) :
    divisionalOwner l d₀ ((l.take d).sum + n) = d₀ + d := by
  induction l generalizing d d₀ with
  | nil => simp at hd
  | cons x rest ih =>
    cases d with
    | zero =>
      obtain rfl : x = k := by simpa using hd
      simp [divisionalOwner, hn]
    | succ d =>
      have hrest : rest[d]? = some k := by simpa using hd
      have hnot : ¬ x + (rest.take d).sum + n < x := by omega
      have hplace : x + (rest.take d).sum + n - x = (rest.take d).sum + n := by omega
      rw [List.take_succ_cons, List.sum_cons, divisionalOwner, if_neg hnot, hplace, ih (d₀ + 1) hrest]
      omega

/-- The place of a divisional stands among the divisionals of its level. -/
theorem divisional_place_lt {l : List Nat} {d k n : Nat} (hd : l[d]? = some k) (hn : n < k) : (l.take d).sum + n < l.sum := by
  obtain ⟨hlen, rfl⟩ := List.getElem?_eq_some_iff.1 hd
  have hsplit : l.sum = (l.take d).sum + (l.drop d).sum := by rw [← List.sum_append, List.take_append_drop]
  rw [List.drop_eq_getElem_cons hlen, List.sum_cons] at hsplit
  omega

/-- The record of a scope and no control is the scope byte alone (R174). -/
theorem content_empty (scope : DivisionSet) : Record.content { scope := scope, sets := emptySets } = scope.setWidth 496 := by
  refine BitVec.eq_of_getLsbD_eq fun k hk => ?_
  have hsets : (packSets (setsOf (setAt emptySets))).getLsbD (k - 8) = false := by
    rw [getLsbD_packSets]
    have hzero : ∀ d, setAt (setsOf (setAt emptySets)) d = 0#48 := fun d => by
      by_cases hd : d < 8
      · rw [setAt_setsOf _ hd, setAt_emptySets hd]
      · simp [setAt, setsOf, List.getD_eq_getElem?_getD, hd]
    simp [hzero]
  rw [Record.content, BitVec.getLsbD_or, getLsbD_placed, BitVec.getLsbD_shiftLeft, hsets]
  simp [hk]

/-- A clear's content at a place of a level (R54, R65). -/
theorem clearContent_level {c : Clear} {level place : Nat} (hl : level < c.layout.levels) (hp : place < c.layout.size) :
    clearContent c (2 + (level * c.layout.size + place)) =
      (if place < c.layout.generals then c.scope
        else BitVec.ofNat 8 (2 ^ divisionalOwner c.layout.divisionals 0 (place - c.layout.generals))).setWidth 496 := by
  have hin : level * c.layout.size + place < c.layout.levels * c.layout.size := by
    have := Nat.mul_le_mul_right c.layout.size (show level + 1 ≤ c.layout.levels from hl)
    rw [Nat.succ_mul] at this
    omega
  have hmod : (level * c.layout.size + place) % c.layout.size = place := by
    rw [Nat.mul_comm, Nat.mul_add_mod, Nat.mod_eq_of_lt hp]
  have h2 : ¬ 2 + (level * c.layout.size + place) < 2 := by omega
  rw [clearContent, if_neg h2, Nat.add_sub_cancel_left, if_pos hin, hmod]
  split <;> simp only [content_empty, *, if_true, if_false]

/-- A clear gives a divisional's record the scope of its own division (R54, R65). -/
theorem clearContent_divisional {c : Clear} {level d n k : Nat} (hl : level < c.layout.levels) (hd : c.layout.divisionals[d]? = some k)
    (hn : n < k) (hlt : d < 8) :
    clearContent c (2 + level * c.layout.size + c.layout.generals + (c.layout.divisionals.take d).sum + n)
      = BitVec.ofNat 496 (2 ^ d) := by
  have hplace : c.layout.generals + ((c.layout.divisionals.take d).sum + n) < c.layout.size :=
    Nat.add_lt_add_left (divisional_place_lt hd hn) _
  have hpow : 2 ^ d < 2 ^ 8 := Nat.pow_lt_pow_right (by decide) hlt
  have hscope : (BitVec.ofNat 8 (2 ^ d)).setWidth 496 = BitVec.ofNat 496 (2 ^ d) := by
    refine BitVec.eq_of_toNat_eq ?_
    rw [BitVec.toNat_setWidth, BitVec.toNat_ofNat, BitVec.toNat_ofNat, Nat.mod_eq_of_lt hpow]
  have hnot : ¬ c.layout.generals + ((c.layout.divisionals.take d).sum + n) < c.layout.generals := by omega
  have hcontent := clearContent_level hl hplace
  rw [if_neg hnot, Nat.add_sub_cancel_left, divisionalOwner_eq 0 hd hn, Nat.zero_add, hscope] at hcontent
  rw [← hcontent]
  congr 1
  omega

/-- A layout in range has eight divisions at most (R120). -/
theorem divisions_le_of_layoutOk {l : Layout} (h : layoutOk l = true) : l.divisions ≤ 8 := by
  unfold layoutOk at h
  simp only [Bool.and_eq_true, decide_eq_true_iff] at h
  omega

/-- A clear writes zeros to slots 28 and 29 and to the sequence and crescendo regions (R54, R65). -/
theorem clearContent_zero {c : Clear} {k : Nat} (h : k < 2 ∨ 2 + c.layout.levels * c.layout.size ≤ k) : clearContent c k = 0#496 := by
  unfold clearContent
  split
  · rfl
  · rw [if_neg (by omega)]

/-- Settles O37: records by their bits, a slot's newest content by where it waits, and the slots of a clear by their place. -/
theorem recordsReadBackAsFormed : Obligations.RecordsReadBackAsFormed := by
  refine ⟨fun l hl => unpackSets_setsContent hl, ?_, ?_, fun c => ⟨slotOf_content c, slotOf_passes c⟩, getLsbD_protectionContent,
    stepAt_eq, ?_, ?_, ?_⟩
  case refine_1 =>
    intro r hr
    exact ⟨recordOf_content hr, recordOf_recordIn (Record.content r) ▸ recordOf_content hr⟩
  case refine_2 =>
    intro steps j place hp hfits
    refine stepAt_sequenceContent j hp fun x hx => ?_
    have := hfits x hx
    cases x <;> exact this
  case refine_3 => exact fun s level => storedSteps_entries s level
  case refine_4 =>
    intro s hw
    obtain ⟨-, hnodup, -⟩ := hw
    intro notBegun image
    have hwaiting : s.memory.waiting = notBegun := waiting_eq s.memory
    rw [← hwaiting]
    refine ⟨fun e he => newest_waiting hnodup he, fun f hf hnone => newest_flight hnone hf,
      fun n hnone hflight => ?_, fun n b hb => extract_readSlotImage s.memory.cells n hb⟩
    rw [newest_array hnone hflight, arrayContent_eq]
  case refine_5 =>
    intro c hok hfits hlen hp l size total
    refine ⟨rfl, rfl, fun k hk => clearSlot_level hp hk, fun k _ => clearSlot_above hp k, fun j k hjk hk => ⟨clearSlot_rises hfits hp hjk, clearSlot_lt hfits hp hk⟩,
      fun level g hl hg => ?_, fun level d n k hl hd hn => ?_, fun k hk => clearContent_zero hk⟩
    · have hplace : g < c.layout.size := Nat.lt_add_right _ hg
      rw [Nat.add_assoc]
      exact (clearContent_level hl hplace).trans (by rw [if_pos hg])
    · have hdlt : d < 8 := by
        have hbound := (List.getElem?_eq_some_iff.1 hd).1.trans_eq hlen
        have := divisions_le_of_layoutOk hok
        omega
      exact clearContent_divisional hl hd hn hdlt

/-! ### The figures of the configuration block (R120, R175) -/

/-- A code and two parameter bytes name one function in both tellings of Table 12-5. -/
theorem functionOf_eq (code p q : Nat) : functionOf code p q = functionCoded code p q := by
  by_cases h : code ≤ 20
  · interval_cases code <;> rfl
  · obtain ⟨n, rfl⟩ : ∃ n, code = n + 21 := ⟨code - 21, by omega⟩
    rfl

/-- A two-byte number is its low byte and 256 times its high byte (R171). -/
theorem word_toNat (c : Content) (i : Nat) : (Content.word c i).toNat = byteIn c i + 256 * byteIn c (i + 1) := by
  simp only [Content.word, byteIn, BitVec.extractLsb'_toNat, Nat.shiftRight_eq_div_pow, Nat.mul_add, Nat.mul_one, Nat.pow_add,
    ← Nat.div_div_eq_div_mul]
  omega

/-- A line entry from its three bytes (Table 12-5, R175). -/
theorem lineEntryAt_eq (c : Content) (k : Nat) : lineEntryAt c k =
    { function := functionCoded (byteIn c (3 * k) % 32) (byteIn c (3 * k + 1)) (byteIn c (3 * k + 2))
      inverted := byteIn c (3 * k) / 32 % 2 == 1
      mode := [QualificationMode.direct, .three, .six].getD (byteIn c (3 * k) / 64) .six } := by
  have hmode : (lineEntryAt c k).mode = [QualificationMode.direct, .three, .six].getD (Content.number c (3 * k) / 64) .six := by
    unfold lineEntryAt
    dsimp only
    rcases Content.number c (3 * k) / 64 with _ | _ | _ | n <;> rfl
  exact (LineEntry.mk.injEq ..).mpr ⟨functionOf_eq _ _ _, rfl, hmode⟩

/-- The figures the check reads are the figures the block spells (R120, R175). -/
theorem configurationOf_eq (slot : Nat → Content) : configurationOf slot = figuresIn slot := by
  have hpolicy : (configurationOf slot).policy = [Policy.cancel, .last, .general, .keep].getD (Content.number (slot 3) 6) .keep := by
    unfold configurationOf
    dsimp only
    rcases Content.number (slot 3) 6 with _ | _ | _ | _ | n <;> rfl
  have htable : (configurationOf slot).table = (figuresIn slot).table := List.map_congr_left fun n _ => lineEntryAt_eq _ _
  exact (Configuration.mk.injEq ..).mpr ⟨rfl, rfl, rfl, rfl, rfl, rfl, rfl, word_toNat _ _, rfl, rfl, rfl, hpolicy, rfl, htable, rfl,
    rfl, rfl⟩

/-! ### The rows of Table 11-2 -/

/-- The ranges of slot 1 (Table 11-2). -/
theorem layoutOk_iff (l : Layout) : layoutOk l = true ↔
    (1 ≤ l.divisions ∧ l.divisions ≤ 8) ∧ ((∀ k ∈ l.controls, 1 ≤ k ∧ k ≤ 48) ∧ l.controls.sum ≤ 256)
      ∧ ((∀ k ∈ l.divisionals, k ≤ 12) ∧ l.generals ≤ 40) ∧ (1 ≤ l.levels ∧ l.levels ≤ 128)
      ∧ (l.steps % 16 = 0 ∧ l.steps ≤ 240) ∧ (8 ≤ l.stages ∧ l.stages ≤ 60) := by
  simp only [layoutOk, Bool.and_eq_true, List.all_eq_true, decide_eq_true_eq, beq_iff_eq, and_assoc]

/-- The mask of the route check has the bits of the fault kinds and no others (Table 12-1). -/
theorem routeMask_faultCode (k : FaultKind) : (0x07FF#16).getLsbD (faultCode k) = true := by
  cases k <;> rfl

theorem exists_faultCode_of_routeMask : ∀ i < 16, (0x07FF#16).getLsbD i = true → ∃ k ∈ faultKinds, faultCode k = i := by
  decide

/-- No two of three, as the route check's operations say it. -/
theorem no_two_of_three (a b c : Bool) : (a && b || a && c || b && c) = false ↔
    ¬(a = true ∧ b = true) ∧ ¬(a = true ∧ c = true) ∧ ¬(b = true ∧ c = true) := by
  simp only [← Bool.not_eq_true, Bool.or_eq_true, Bool.and_eq_true, not_or, and_assoc]

/-- No kind stands in two of the route sets, kind by kind (R159). -/
theorem routesOk_iff (r : Routes) : routesOk r = true ↔ ∀ k : FaultKind,
    ¬(r.lamp.getLsbD (faultCode k) = true ∧ r.notice.getLsbD (faultCode k) = true)
      ∧ ¬(r.lamp.getLsbD (faultCode k) = true ∧ r.line.getLsbD (faultCode k) = true)
      ∧ ¬(r.notice.getLsbD (faultCode k) = true ∧ r.line.getLsbD (faultCode k) = true) := by
  rw [routesOk, beq_iff_eq]
  constructor
  · intro h k
    have hbit := congrArg (·.getLsbD (faultCode k)) h
    simp only [BitVec.getLsbD_and, BitVec.getLsbD_or, routeMask_faultCode, BitVec.getLsbD_zero, Bool.and_true] at hbit
    exact (no_two_of_three _ _ _).1 hbit
  · intro h
    refine BitVec.eq_of_getLsbD_eq fun i hi => ?_
    rw [BitVec.getLsbD_and, BitVec.getLsbD_zero, Bool.and_eq_false_iff, or_iff_not_imp_right, Bool.not_eq_false]
    intro hmask
    obtain ⟨k, -, rfl⟩ := exists_faultCode_of_routeMask i hi hmask
    simp only [BitVec.getLsbD_and, BitVec.getLsbD_or]
    exact (no_two_of_three _ _ _).2 (h k)

/-- A function's parameters lie within the layout (Table 7-1). -/
theorem parametersOk_iff (l : Layout) (f : LineFunction) : parametersOk l f = true ↔ parametersIn l f := by
  cases f
  case divisionalPiston d n =>
    simp only [parametersOk, parametersIn, Bool.and_eq_true, decide_eq_true_eq, and_assoc]
    rfl
  all_goals simp only [parametersOk, parametersIn, Bool.and_eq_true, decide_eq_true_eq]

/-- The encoder lines stand each on one line or none on any (R123). -/
theorem encoderLinesOk_iff (table : List LineEntry) : encoderLinesOk table = true ↔
    (∀ f ∈ [LineFunction.encoderA, .encoderB, .encoderIndex], (table.countP fun e => e.function == f) = 1)
      ∨ ∀ f ∈ [LineFunction.encoderA, .encoderB, .encoderIndex], (table.countP fun e => e.function == f) = 0 := by
  simp only [encoderLinesOk, linesCarrying, Bool.or_eq_true, Bool.and_eq_true, beq_iff_eq, List.forall_mem_cons,
    List.not_mem_nil, false_imp_iff, implies_true, and_true, and_assoc]

/-- A layout fits where the level region ends at or below the sequence region, the subtractions of R49 cut off at 0 (R50). -/
theorem fits_iff_regions (l : Layout) : l.fits = true ↔
    32 + l.levels * (l.generals + l.divisionals.sum) ≤ 16384 - (4 * l.stages + 1) - l.levels * (l.steps / 16) := by
  rw [fits_iff]
  simp only [Layout.size, Layout.sequenceSlots]
  omega

/-- A scope names divisions below the count alone. -/
theorem scope_all_iff (scope : DivisionSet) (n : Nat) :
    ((List.range 8).all fun d => !scope.getLsbD d || decide (d < n)) = true ↔ ∀ d, scope.getLsbD d = true → d < n := by
  simp only [List.all_eq_true, List.mem_range, Bool.or_eq_true, Bool.not_eq_true', decide_eq_true_eq]
  constructor
  · intro h d hd
    exact (h d (BitVec.lt_of_getLsbD hd)).resolve_left (by simp [hd])
  · intro h d _
    by_cases hd : scope.getLsbD d = true
    · exact .inr (h d hd)
    · exact .inl (Bool.not_eq_true _ ▸ hd)

/-- A sound layout has at most 48 controls in a division (R123). -/
theorem controls_getD_le {l : Layout} (h : ∀ k ∈ l.controls, 1 ≤ k ∧ k ≤ 48) (d : Nat) : l.controls.getD d 0 ≤ 48 := by
  by_cases hd : d < l.controls.length
  · rw [List.getD_eq_getElem _ _ hd]
    exact (h _ (List.getElem_mem hd)).2
  · rw [List.getD_eq_default _ _ (Nat.le_of_not_lt hd)]
    exact Nat.zero_le _

/-- A set is its own restriction where its members are defined (R1). -/
theorem restrict_eq_self_iff {c : Configuration} {d : Nat} (hc : c.controlsOf d ≤ 48) (x : StopSet) :
    c.restrict d x = x ↔ ∀ i, x.getLsbD i = true → i < c.controlsOf d := by
  constructor
  · intro h i hi
    rw [← h, Configuration.restrict, BitVec.getLsbD_and, Bool.and_eq_true] at hi
    exact (mem_definedIndices hc i).1 hi.2
  · intro h
    refine BitVec.eq_of_getLsbD_eq fun i _ => ?_
    rw [Configuration.restrict, BitVec.getLsbD_and, Bool.and_eq_left_iff_imp]
    exact fun hi => (mem_definedIndices hc i).2 (h i hi)

/-- A list of eight sets has no members beyond division 7. -/
theorem lt_of_mem_setAt {l : Sets} (hl : l.length = 8) {d i : Nat} (h : (setAt l d).getLsbD i = true) : d < 8 := by
  by_contra hd
  rw [setAt, List.getD_eq_default _ _ (by omega)] at h
  simp at h

/-- The sensed sets hold defined indices alone (R123). -/
theorem defined_all_iff {c : Configuration} (hl : c.sensed.length = 8) (hc : ∀ k ∈ c.layout.controls, 1 ≤ k ∧ k ≤ 48) :
    ((List.range 8).all fun d => c.restrict d (setAt c.sensed d) == setAt c.sensed d) = true ↔
      ∀ d i, (setAt c.sensed d).getLsbD i = true → i < c.layout.controls.getD d 0 := by
  simp only [List.all_eq_true, List.mem_range, beq_iff_eq, restrict_eq_self_iff (controls_getD_le hc _)]
  exact ⟨fun h d i hi => h d (lt_of_mem_setAt hl hi) i hi, fun h d _ => h d⟩

/-! ### The Stop sense lines (R123) -/

/-- How often sets hold a control: once or not at all. -/
def memberCount (l : Sets) (d i : Nat) : Nat := ((setAt l d).getLsbD i).toNat

theorem memberCount_le (l : Sets) (d i : Nat) : memberCount l d i ≤ 1 := Bool.toNat_le _

theorem memberCount_pos_iff {l : Sets} {d i : Nat} : 0 < memberCount l d i ↔ (setAt l d).getLsbD i = true := by
  unfold memberCount
  cases (setAt l d).getLsbD i <;> decide

theorem memberCount_beyond {l : Sets} (hl : l.length = 8) {d : Nat} (hd : ¬ d < 8) (i : Nat) : memberCount l d i = 0 :=
  Nat.eq_zero_of_not_pos fun h => hd (lt_of_mem_setAt hl (memberCount_pos_iff.1 h))

theorem memberCount_emptySets (d i : Nat) : memberCount emptySets d i = 0 := by
  by_cases hd : d < 8
  · rw [memberCount, setAt_emptySets hd, BitVec.getLsbD_zero]
    rfl
  · exact memberCount_beyond rfl hd i

/-- Lists of eight sets are one where they hold the same controls. -/
theorem sets_ext {a b : Sets} (ha : a.length = 8) (hb : b.length = 8) (h : ∀ d i, memberCount a d i = memberCount b d i) : a = b := by
  refine List.ext_getElem (ha.trans hb.symm) fun d hda hdb => BitVec.eq_of_getLsbD_eq fun i _ => ?_
  have hbit := h d i
  rw [memberCount, memberCount, setAt, setAt, List.getD_eq_getElem _ _ hda, List.getD_eq_getElem _ _ hdb] at hbit
  exact Function.LeftInverse.injective Bool.ofNat_toNat hbit

/-- The accumulator after a Stop sense line. -/
def joined (acc : Sets) (d i : Nat) : Sets := setsOf fun k => if k = d then withStop (setAt acc k) i else setAt acc k

/-- The members of a set with an index joined (R8). -/
theorem getLsbD_withStop (x : StopSet) {i : Nat} (hi : i < 48) (i' : Nat) :
    (withStop x i).getLsbD i' = (x.getLsbD i' || decide (i = i')) := by
  rw [withStop, BitVec.getLsbD_or, BitVec.getLsbD_ofNat, Nat.testBit_two_pow]
  by_cases h : i = i'
  · subst h
    simp only [decide_true, decide_eq_true hi, Bool.and_self]
  · simp only [h, decide_false, Bool.and_false]

/-- A Stop sense line adds its control, which stood in no set before, and no other. -/
theorem memberCount_joined {acc : Sets} (hacc : acc.length = 8) {d i : Nat} (hd : d < 8) (hi : i < 48)
    (hfree : (setAt acc d).getLsbD i = false) (d' i' : Nat) :
    memberCount (joined acc d i) d' i' = memberCount acc d' i' + if d = d' ∧ i = i' then 1 else 0 := by
  by_cases hd' : d' < 8
  · rw [memberCount, memberCount, joined, setAt_setsOf _ hd']
    by_cases hsame : d' = d
    · subst hsame
      rw [if_pos rfl, getLsbD_withStop _ hi]
      by_cases hsameIndex : i = i'
      · subst hsameIndex
        simp [hfree]
      · simp [hsameIndex]
    · rw [if_neg hsame, if_neg fun h : d = d' ∧ i = i' => hsame h.1.symm]
      rfl
  · rw [memberCount_beyond rfl hd', memberCount_beyond hacc hd', if_neg fun h : d = d' ∧ i = i' => hd' (h.1 ▸ hd)]

theorem senseLines_sense {e : LineEntry} {rest : List LineEntry} {acc : Sets} {d i : Nat} (h : e.function = .stopSense d i) :
    senseLines (e :: rest) acc = if (setAt acc d).getLsbD i then none else senseLines rest (joined acc d i) := by
  simp only [senseLines, h]
  rfl

theorem senseLines_other {e : LineEntry} {rest : List LineEntry} {acc : Sets} (h : ∀ d i, e.function ≠ .stopSense d i) :
    senseLines (e :: rest) acc = senseLines rest acc := by
  rw [senseLines]
  split
  · rename_i d i hf
    exact absurd hf (h d i)
  · rfl

/-- The gathering gives the sets that hold each control as often as it stood in the accumulator and on the lines together: it refuses
where that is more than once (R123). -/
theorem senseLines_eq_some {table : List LineEntry} {acc out : Sets}
    (hrange : ∀ e ∈ table, ∀ d i, e.function = .stopSense d i → d < 8 ∧ i < 48) (hacc : acc.length = 8) (hout : out.length = 8) :
    senseLines table acc = some out ↔
      ∀ d i, memberCount out d i = memberCount acc d i + linesCarrying table (.stopSense d i) := by
  induction table generalizing acc with
  | nil =>
    simp only [senseLines, linesCarrying, List.countP_nil, Nat.add_zero, Option.some.injEq]
    exact ⟨fun h d i => by rw [h], fun h => (sets_ext hout hacc h).symm⟩
  | cons e rest ih =>
    have hrest := fun e he => hrange e (List.mem_cons_of_mem _ he)
    by_cases hsense : ∃ d i, e.function = .stopSense d i
    · obtain ⟨d, i, hf⟩ := hsense
      obtain ⟨hd, hi⟩ := hrange e List.mem_cons_self d i hf
      have hcount : ∀ d' i', linesCarrying (e :: rest) (.stopSense d' i')
          = linesCarrying rest (.stopSense d' i') + if d = d' ∧ i = i' then 1 else 0 := fun d' i' => by
        simp [linesCarrying, List.countP_cons, hf]
      rw [senseLines_sense hf]
      by_cases hheld : (setAt acc d).getLsbD i = true
      · rw [if_pos hheld]
        refine ⟨fun h => absurd h (by simp), fun h => ?_⟩
        have hone := h d i
        have hpos := memberCount_pos_iff.2 hheld
        have hle := memberCount_le out d i
        rw [hcount, if_pos ⟨rfl, rfl⟩] at hone
        omega
      · rw [if_neg hheld, ih hrest rfl]
        refine forall₂_congr fun d' i' => ?_
        rw [hcount, memberCount_joined hacc hd hi (Bool.not_eq_true _ ▸ hheld), Nat.add_assoc, Nat.add_comm (linesCarrying rest _)]
    · have hf : ∀ d i, e.function ≠ .stopSense d i := fun d i h => hsense ⟨d, i, h⟩
      rw [senseLines_other hf, ih hrest hacc]
      have hcount : ∀ d i, linesCarrying (e :: rest) (.stopSense d i) = linesCarrying rest (.stopSense d i) := fun d i => by
        simp [linesCarrying, hf d i]
      simp only [hcount]

/-- The gathered sets are the sensed sets: no control on two lines, and each set holds the controls its lines name (R123). -/
theorem senseLines_iff {table : List LineEntry} {sensed : Sets}
    (hrange : ∀ e ∈ table, ∀ d i, e.function = .stopSense d i → d < 8 ∧ i < 48) (hlen : sensed.length = 8) :
    senseLines table emptySets = some sensed ↔
      (∀ d i, linesCarrying table (.stopSense d i) ≤ 1)
        ∧ ∀ d i, (setAt sensed d).getLsbD i = true ↔ ∃ e ∈ table, e.function = .stopSense d i := by
  have hpos : ∀ d i, 0 < linesCarrying table (.stopSense d i) ↔ ∃ e ∈ table, e.function = .stopSense d i := fun d i => by
    simp only [linesCarrying, List.countP_pos_iff, beq_iff_eq]
  have hempty : emptySets.length = 8 := rfl
  simp only [senseLines_eq_some hrange hempty hlen, memberCount_emptySets, Nat.zero_add, ← hpos, ← memberCount_pos_iff]
  constructor
  · intro h
    exact ⟨fun d i => h d i ▸ memberCount_le _ _ _, fun d i => by rw [h]⟩
  · rintro ⟨honce, hsame⟩ d i
    have := honce d i
    have := hsame d i
    have := memberCount_le sensed d i
    omega

/-! ### The check (R167) -/

/-- A byte is at most 255 (R171). -/
theorem byteIn_le (c : Content) (i : Nat) : byteIn c i ≤ 255 := Nat.le_of_lt_succ (BitVec.isLt _)

/-- A Stop sense line's parameters name a set's place where the layout is in range (Table 7-1). -/
theorem stopSense_range {l : Layout} {table : List LineEntry} (hdiv : l.divisions ≤ 8) (hctl : ∀ k ∈ l.controls, 1 ≤ k ∧ k ≤ 48)
    (hpar : ∀ e ∈ table, parametersIn l e.function) : ∀ e ∈ table, ∀ d i, e.function = .stopSense d i → d < 8 ∧ i < 48 := by
  intro e he d i hf
  have hin := hpar e he
  rw [hf] at hin
  obtain ⟨hd, hi⟩ : d < l.divisions ∧ i < l.controls.getD d 0 := hin
  exact ⟨hd.trans_le hdiv, hi.trans_le (controls_getD_le hctl d)⟩

/-- The sampling periods are bytes other than 0. -/
theorem periods_all_iff (slot : Nat → Content) :
    ((figuresIn slot).periods.all fun x => decide (1 ≤ x)) = true ↔ ∀ x ∈ (figuresIn slot).periods, 1 ≤ x ∧ x ≤ 255 := by
  simp only [List.all_eq_true, decide_eq_true_eq]
  refine forall₂_congr fun x hx => ⟨fun h => ⟨h, ?_⟩, And.left⟩
  obtain ⟨m, -, rfl⟩ := List.mem_map.1 hx
  exact byteIn_le _ _

/-- Each line entry names a function and a mode of Table 12-5. -/
theorem codes_all_iff (slot : Nat → Content) : ((List.range 384).all fun n => lineCodeOk (slot (4 + n / 16)) (n % 16)) = true ↔
    ∀ n, n < 384 → entryByte slot n % 32 ≤ 20 ∧ entryByte slot n / 64 ≠ 3 := by
  simp only [List.all_eq_true, List.mem_range, lineCodeOk, Bool.and_eq_true, decide_eq_true_eq]
  rfl

/-- Each line's parameters lie within the layout (Table 7-1). -/
theorem parameters_all_iff (l : Layout) (table : List LineEntry) :
    (table.all fun e => parametersOk l e.function) = true ↔ ∀ e ∈ table, parametersIn l e.function := by
  simp only [List.all_eq_true, parametersOk_iff]

/-- Under the policy of the return general that general lies in range (Table 11-2). -/
theorem general_or_iff (p : Policy) (q : Prop) : ((p != Policy.general) = true ∨ q) ↔ (p = .general → q) := by
  rw [bne_iff_ne, ne_eq, ← imp_iff_not_or]

/-- The check of the figures is Table 11-2, row by row (R123, R159, R167). -/
theorem configurationOk_iff (slot : Nat → Content) : configurationOk slot = true ↔ Acceptable slot (figuresIn slot) := by
  have hlen : (figuresIn slot).sensed.length = 8 := rfl
  have hclosed : (figuresIn slot).closed ≤ 255 := byteIn_le _ _
  simp only [configurationOk, identityOk, configurationOf_eq, layoutOk_iff, routesOk_iff, periods_all_iff, codes_all_iff,
    parameters_all_iff, encoderLinesOk_iff, scope_all_iff, general_or_iff, fits_iff_regions, Bool.and_eq_true, Bool.or_eq_true,
    decide_eq_true_eq, beq_iff_eq, and_assoc]
  constructor
  · rintro ⟨hn1, hn2, hrate, hd1, hd2, hk, hksum, hpistons, hgenerals, hl1, hl2, hs1, hs2, hg1, hg2, hb1, hb2, hp1, hp2, hp3, ht1, ht2,
      ht3, ho1, ho2, ho3, hw1, hw2, hh, hroutes, hpolicy, hperiods, hcodes, hpar, hsense, hencoder, hscope, hdefined, hreturn, hfits⟩
    obtain ⟨honce, hnamed⟩ := (senseLines_iff (stopSense_range hd2 hk hpar) hlen).1 hsense
    exact {
      number := ⟨hn1, hn2⟩, rate := hrate, divisions := ⟨hd1, hd2⟩, controls := ⟨hk, hksum⟩, pistons := ⟨hpistons, hgenerals⟩
      levels := ⟨hl1, hl2⟩, steps := ⟨hs1, hs2⟩, stages := ⟨hg1, hg2⟩, budget := ⟨hb1, hb2⟩, pulse := ⟨hp1, hp2, hp3⟩
      settle := ⟨ht1, ht2, ht3⟩, shoe := ⟨hclosed, ho1, ho2, ho3⟩, bow := ⟨hw1, hw2, hh⟩, routes := hroutes, policy := hpolicy
      periods := hperiods, codes := hcodes, parameters := hpar, senseOnce := honce, senseDefined := hnamed, encoder := hencoder
      scope := hscope, defined := (defined_all_iff hlen hk).1 hdefined, returnGeneral := hreturn, partition := hfits }
  · rintro ⟨⟨hn1, hn2⟩, hrate, ⟨hd1, hd2⟩, ⟨hk, hksum⟩, ⟨hpistons, hgenerals⟩, ⟨hl1, hl2⟩, ⟨hs1, hs2⟩, ⟨hg1, hg2⟩, ⟨hb1, hb2⟩,
      ⟨hp1, hp2, hp3⟩, ⟨ht1, ht2, ht3⟩, ⟨-, ho1, ho2, ho3⟩, ⟨hw1, hw2, hh⟩, hroutes, hpolicy, hperiods, hcodes, hpar, honce, hnamed,
      hencoder, hscope, hdefined, hreturn, hfits⟩
    have hsense := (senseLines_iff (stopSense_range hd2 hk hpar) hlen).2 ⟨honce, hnamed⟩
    exact ⟨hn1, hn2, hrate, hd1, hd2, hk, hksum, hpistons, hgenerals, hl1, hl2, hs1, hs2, hg1, hg2, hb1, hb2, hp1, hp2, hp3, ht1, ht2,
      ht3, ho1, ho2, ho3, hw1, hw2, hh, hroutes, hpolicy, hperiods, hcodes, hpar, hsense, hencoder, hscope,
      (defined_all_iff hlen hk).2 hdefined, hreturn, hfits⟩

/-- The slots that must pass their check (R167). -/
theorem mem_requiredSlots (n : Nat) : n ∈ requiredSlots ↔ n < 28 ∨ n = 30 ∨ n = 31 := by
  simp [requiredSlots]

/-- Settles O21: the check as a condition, its figures by their bytes and its conditions row by row. -/
theorem acceptedConfigurationsAreInRange : Obligations.AcceptedConfigurationsAreInRange := by
  intro read c slot
  have hread : requiredSlots.all (fun n => (read n).isSome) = true ↔ ∀ n, n < 28 ∨ n = 30 ∨ n = 31 → (read n).isSome = true := by
    simp only [List.all_eq_true, mem_requiredSlots]
  rw [← hread, checkConfiguration, configurationOf_eq]
  simp only [Option.ite_none_right_eq_some, Bool.and_eq_true, configurationOk_iff, Option.some.injEq, and_assoc]
  refine and_congr_right fun _ => ?_
  constructor
  · rintro ⟨h, rfl⟩
    exact ⟨rfl, h⟩
  · rintro ⟨rfl, h⟩
    exact ⟨h, rfl⟩

end Sys2Proof.Proofs
end

section
/-!
PROOFS. The statement that every step keeps level, list, crescendo and supply in their ranges. First what each operation that
touches them does to their figures, then every command.
-/

namespace Sys2Proof.Proofs

open Sys2Proof Sys2Proof.Machine Sys2Proof.Safety

/-! ### The figures of the Crescendo Unit (R79, R82) -/

/-- What the ranges of the Crescendo Unit speak of: position, phase errors, hold, program, stage and repeat count. -/
def unitFigures (u : CrescendoUnit) : Nat × Nat × Bool × Nat × Nat × Nat :=
  (u.count, u.phaseErrors, u.held, u.program, u.stage, u.repeatCount)

theorem crescendoOk_congr {s t : State} (hfigures : unitFigures t.crescendo = unitFigures s.crescendo) (hcfg : t.cfg = s.cfg)
    (h : crescendoOk s) : crescendoOk t := by
  simp only [unitFigures, Prod.mk.injEq] at hfigures
  obtain ⟨hcount, herrors, hheld, hprogram, hstage, hrepeat⟩ := hfigures
  simpa only [crescendoOk, State.hasEncoder, State.lineOf, State.config, hcount, herrors, hheld, hprogram, hstage, hrepeat, hcfg]
    using h

@[simp] theorem unitFigures_additions (u : CrescendoUnit) (a b v : Bool) (x y : Sets) :
    unitFigures { u with refA := a, refB := b, tutti := v, localAdditions := x, effective := y } = unitFigures u := rfl

@[simp] theorem formEffective_figures (s : State) : unitFigures (formEffective s).crescendo = unitFigures s.crescendo := by
  unfold formEffective
  split <;> rfl

@[simp] theorem formAdditions_figures (old : CrescendoUnit) (s : State) :
    unitFigures (formAdditions old s).crescendo = unitFigures s.crescendo := by
  simp only [formAdditions]
  split <;> simp

@[simp] theorem setTutti_figures (v : Bool) (s : State) : unitFigures (setTutti v s).crescendo = unitFigures s.crescendo := by
  unfold setTutti
  split <;> simp

@[simp] theorem takeReference_figures (s : State) : unitFigures (takeReference s).crescendo = unitFigures s.crescendo := rfl

@[simp] theorem captureStage_figures (s : State) : unitFigures (captureStage s).crescendo = unitFigures s.crescendo := by
  unfold captureStage
  dsimp only
  repeat' split
  · simp
  · simp [writeRequest_frame ‹_›]
  · simp

@[simp] theorem captureTutti_figures (s : State) : unitFigures (captureTutti s).crescendo = unitFigures s.crescendo := by
  unfold captureTutti
  repeat' split
  · simp
  · simp [writeRequest_frame ‹_›]
  · simp [writeRequest_frame ‹_›]
  · simp

@[simp] theorem takeHeartbeat_figures (origin : Nat) (h : HeartbeatContent) (s : State) :
    unitFigures (takeHeartbeat origin h s).crescendo = unitFigures s.crescendo := by
  unfold takeHeartbeat matchedHeartbeat unknownHeartbeat
  dsimp only
  repeat' split
  all_goals simp

@[simp] theorem takeContribution_figures (origin : Nat) (c : CrescendoContent) (s : State) :
    unitFigures (takeContribution origin c s).crescendo = unitFigures s.crescendo := by
  unfold takeContribution
  repeat' split
  all_goals simp

/-! ### What a command keeps -/

/-- From s to t each of the three ranges is kept. -/
structure RangesKept (s t : State) : Prop where
  levels : levelsOk s → levelsOk t
  crescendo : crescendoOk s → crescendoOk t
  supply : supplyOk s → supplyOk t

/-- The figures that the ranges speak of are those of s, under the configuration of s. -/
def SameFigures (s t : State) : Prop :=
  (t.recallUnit.level = s.recallUnit.level ∧ t.sequencer = s.sequencer) ∧ unitFigures t.crescendo = unitFigures s.crescendo
    ∧ t.supply = s.supply ∧ t.cfg = s.cfg

theorem levelsOk_congr {s t : State} (hlevel : t.recallUnit.level = s.recallUnit.level) (hsequencer : t.sequencer = s.sequencer)
    (hcfg : t.cfg = s.cfg) (h : levelsOk s) : levelsOk t := by
  simpa only [levelsOk, State.config, hlevel, hsequencer, hcfg] using h

section RangesKept

variable {s t u : State}

theorem RangesKept.refl (s : State) : RangesKept s s := ⟨id, id, id⟩

theorem RangesKept.trans (h : RangesKept s t) (h' : RangesKept t u) : RangesKept s u :=
  ⟨h'.levels ∘ h.levels, h'.crescendo ∘ h.crescendo, h'.supply ∘ h.supply⟩

/-- An operation on level or list alone. -/
theorem RangesKept.of_levels (hlevels : levelsOk s → levelsOk t)
    (h : unitFigures t.crescendo = unitFigures s.crescendo ∧ t.supply = s.supply ∧ t.cfg = s.cfg) : RangesKept s t := by
  obtain ⟨hfigures, hsupply, hcfg⟩ := h
  exact ⟨hlevels, crescendoOk_congr hfigures hcfg, fun hs => by rwa [supplyOk, hsupply]⟩

/-- An operation on the Crescendo Unit alone. -/
theorem RangesKept.of_crescendo (hcrescendo : crescendoOk s → crescendoOk t)
    (h : t.recallUnit.level = s.recallUnit.level ∧ t.sequencer = s.sequencer ∧ t.supply = s.supply ∧ t.cfg = s.cfg) :
    RangesKept s t := by
  obtain ⟨hlevel, hsequencer, hsupply, hcfg⟩ := h
  exact ⟨levelsOk_congr hlevel hsequencer hcfg, hcrescendo, fun hs => by rwa [supplyOk, hsupply]⟩

/-- An operation on none of the figures. -/
theorem RangesKept.of_same (h : SameFigures s t) : RangesKept s t := by
  obtain ⟨⟨hlevel, hsequencer⟩, hfigures, hsupply, hcfg⟩ := h
  exact .of_levels (levelsOk_congr hlevel hsequencer hcfg) ⟨hfigures, hsupply, hcfg⟩

theorem RangesKept.ite {p : Prop} [Decidable p] (h : RangesKept s t) : RangesKept s (if p then t else s) := by
  split
  · exact h
  · exact .refl s

/-! ### Pistons, cancels and Set (R24 to R35) -/

theorem recallPiston_sameFigures (p : Piston) (s : State) : SameFigures s (recallPiston p (localEvent s)) := by
  simp [SameFigures]

/-- A piston press captures or recalls, and neither touches a figure (R24, R26, R33, R34). -/
theorem pressPiston_sameFigures (p : Piston) (r : Record) (s : State) :
    SameFigures s (if s.setIsHeld then capturePiston p r (localEvent s) else recallPiston p (localEvent s)) := by
  split
  · simp [SameFigures]
  · exact recallPiston_sameFigures p s

theorem cancelAll_sameFigures (s : State) : SameFigures s (cancelAll (localEvent s)) := by
  have hfigures : unitFigures (cancelAll (localEvent s)).crescendo = unitFigures s.crescendo := by simp [cancelAll]
  exact ⟨by simp, hfigures, by simp⟩

theorem pressDivisionCancel_keepsRanges (d : Nat) (s : State) : RangesKept s (pressDivisionCancel d s) := by
  refine .ite ?_
  dsimp only
  split
  · exact .of_same ⟨⟨rfl, rfl⟩, rfl, rfl, rfl⟩
  · exact .of_same (by simp [SameFigures, setCancelCount])

theorem pressProtect_keepsRanges (s : State) : RangesKept s (pressProtect s) := by
  unfold pressProtect
  dsimp only
  repeat' split
  · exact .of_same (by simp [SameFigures, writeRequest_frame ‹_›])
  · exact .of_same (by simp [SameFigures])
  · exact .of_same (by simp [SameFigures])
  · exact .refl s

/-! ### Levels and the Sequencer (R22, R23, R67 to R76) -/

/-- A list that was loaded is no longer than Q, its cursor at 0 (R67, R69). -/
theorem loadLevel_list (level : Nat) (s : State) :
    (loadLevel level s).sequencer.cursor ≤ (loadLevel level s).sequencer.steps.length
      ∧ (loadLevel level s).sequencer.steps.length ≤ (loadLevel level s).config.layout.steps := by
  simp [loadLevel, storedSteps_length]

/-- A level change loads the list of the new level (R23, R69). -/
theorem changeLevel_keepsRanges {level : Nat} (h : levelsOk s → 1 ≤ level ∧ level ≤ max 1 s.config.layout.levels) :
    RangesKept s (changeLevel level s) := by
  refine .of_levels (fun hs => ?_) (by simp)
  have hlevel : (changeLevel level s).recallUnit.level = level := by simp [changeLevel]
  have hconfig : (changeLevel level s).config = s.config := by simp
  obtain ⟨hlow, hhigh⟩ := h hs
  exact ⟨by rwa [hlevel], by rwa [hlevel, hconfig], loadLevel_list level _⟩

theorem localEvent_keepsRanges (s : State) : RangesKept s (localEvent s) := .of_same ⟨⟨rfl, rfl⟩, rfl, rfl, rfl⟩

theorem pressLevelUp_keepsRanges (s : State) : RangesKept s (pressLevelUp s) := by
  unfold pressLevelUp
  dsimp only
  repeat' split
  · rename_i hbelow
    exact (localEvent_keepsRanges s).trans (changeLevel_keepsRanges fun _ => by simp only [localEvent_frame]; omega)
  · exact localEvent_keepsRanges s
  · exact .refl s

theorem pressLevelDown_keepsRanges (s : State) : RangesKept s (pressLevelDown s) := by
  unfold pressLevelDown
  dsimp only
  repeat' split
  · rename_i habove
    refine (localEvent_keepsRanges s).trans (changeLevel_keepsRanges fun hs => ?_)
    obtain ⟨-, hhigh, -⟩ := hs
    simp only [localEvent_frame] at hhigh ⊢
    omega
  · exact localEvent_keepsRanges s
  · exact .refl s

/-- A step that is performed is a recall or a cancel (R73). -/
theorem performStep_keepsRanges (s : State) : RangesKept s (performStep s) := by
  unfold performStep
  repeat' split
  · rename_i x _ _
    cases x with
    | general g => exact .of_same (recallPiston_sameFigures _ s)
    | divisional d n => exact .of_same (recallPiston_sameFigures _ s)
    | generalCancel => exact .of_same (cancelAll_sameFigures s)
  all_goals exact .refl s

theorem setCursor_keepsRanges {n : Nat} (h : levelsOk s → n ≤ s.sequencer.steps.length) : RangesKept s (setCursor n s) := by
  refine .of_levels (fun hs => ?_) ⟨rfl, rfl, rfl⟩
  have hcursor := h hs
  obtain ⟨hlow, hhigh, -, hlen⟩ := hs
  exact ⟨hlow, hhigh, hcursor, hlen⟩

/-- An edit that is taken puts the new list and cursor in place (R74 to R76). -/
theorem edit_keepsRanges {steps : List SequenceStep} {cursor : Nat} (first last : Nat)
    (h : levelsOk s → cursor ≤ steps.length ∧ steps.length ≤ s.config.layout.steps) :
    RangesKept s (edit steps cursor first last s) := by
  unfold edit
  split
  · rename_i t ht
    have hframe := writeRequest_frame ht
    have hlevel : t.recallUnit.level = s.recallUnit.level := by simp [hframe]
    have hconfig : t.config = s.config := by simp [hframe]
    refine .of_levels (fun hs => ?_) (by simp [hframe])
    obtain ⟨hcursor, hlen⟩ := h hs
    obtain ⟨hlow, hhigh, -⟩ := hs
    rw [← hlevel] at hlow hhigh
    rw [← hconfig] at hhigh hlen
    exact ⟨hlow, hhigh, hcursor, hlen⟩
  · exact .of_same (by simp [SameFigures])

/-- An insert lengthens a list that is not full (R74). -/
theorem insertStep_keepsRanges (s : State) : RangesKept s (insertStep s) := by
  unfold insertStep
  dsimp only
  split
  · exact .of_same (by simp [SameFigures])
  · rename_i hroom
    have hfree : s.sequencer.steps.length < s.config.layout.steps := Nat.lt_of_not_le fun hn => hroom (.inl hn)
    refine edit_keepsRanges _ _ fun hs => ?_
    obtain ⟨-, -, hcursor, -⟩ := hs
    rw [List.length_insertIdx_of_le_length hcursor]
    omega

/-- A delete shortens the list at a cursor above 0 (R75). -/
theorem deleteStep_keepsRanges (s : State) : RangesKept s (deleteStep s) := by
  unfold deleteStep
  dsimp only
  split
  · exact .of_same (by simp [SameFigures])
  · rename_i hbarred
    have hpos : s.sequencer.cursor ≠ 0 := fun hn => hbarred (.inl hn)
    refine edit_keepsRanges _ _ fun hs => ?_
    obtain ⟨-, -, hcursor, hsteps⟩ := hs
    rw [List.length_eraseIdx_of_lt (by omega)]
    omega

theorem pressNext_keepsRanges (s : State) : RangesKept s (pressNext s) := by
  unfold pressNext stepNext
  repeat' split
  · exact insertStep_keepsRanges s
  · rename_i hbelow
    exact (setCursor_keepsRanges fun _ => hbelow).trans (performStep_keepsRanges _)
  · exact .of_same (by simp [SameFigures])
  · exact .refl s

theorem pressPrevious_keepsRanges (s : State) : RangesKept s (pressPrevious s) := by
  unfold pressPrevious stepPrevious
  repeat' split
  · exact deleteStep_keepsRanges s
  · refine (setCursor_keepsRanges fun hs => ?_).trans (performStep_keepsRanges _)
    obtain ⟨-, -, hcursor, -⟩ := hs
    omega
  all_goals exact .refl s

/-! ### The stage (R84 to R87) -/

/-- A shoe at rest selects stage 0 from stage 0, whatever the calibration (R84, R86). -/
theorem selectStage_rest (c : Configuration) : selectStage c (calibrated c 0) 0 = 0 := by
  have hposition : shoePosition c 0 = 0 := by simp [shoePosition]
  have hrest : calibrated c 0 = 0 := by simp [calibrated, hposition]
  simp [hrest, selectStage, candidateStage]

/-- The stage an evaluation selects lies in its range, and at a console without a shoe it stays 0 (R84, R86). -/
theorem crescendoOk_selectStage (h : crescendoOk s) : crescendoOk (s.setCrescendo { s.crescendo with
    stage := selectStage s.config (calibrated s.config s.crescendo.count) s.crescendo.stage }) := by
  obtain ⟨hcount, herrors, hheld, hprogram, hstage, hrepeat, hshoe⟩ := h
  refine ⟨hcount, herrors, hheld, hprogram, selectStage_le _ _ hstage, hrepeat, fun hnone => ?_⟩
  obtain ⟨hcount0, herrors0, hheld0, hstage0⟩ := hshoe hnone
  exact ⟨hcount0, herrors0, hheld0, by simp [hcount0, hstage0, selectStage_rest]⟩

theorem evaluateStage_crescendoOk (h : crescendoOk s) : crescendoOk (evaluateStage s) := by
  unfold evaluateStage
  dsimp only
  repeat' split
  · exact h
  · exact h
  · exact crescendoOk_congr (by simp) (by simp) (crescendoOk_selectStage h)

theorem wakeCrescendo_crescendoOk (h : crescendoOk s) : crescendoOk (wakeCrescendo s) := by
  refine crescendoOk_congr (s := s.setCrescendo { s.crescendo with stage := s.stageOnWaking }) (by simp [wakeCrescendo])
    (by simp [wakeCrescendo]) ?_
  unfold State.stageOnWaking
  split
  · exact h
  · exact crescendoOk_selectStage h

theorem enterAwake_keepsRanges (s : State) : RangesKept s (enterAwake s) :=
  .of_crescendo (fun h => wakeCrescendo_crescendoOk (crescendoOk_congr (by simp) (by simp) h)) (by simp)

theorem enterDormant_keepsRanges (s : State) : RangesKept s (enterDormant s) :=
  .of_same (by simp [SameFigures, enterDormant, dropCounts])

theorem judgeConsole_keepsRanges (s : State) : RangesKept s (judgeConsole s) := by
  unfold judgeConsole
  repeat' split
  · exact .refl s
  · exact enterDormant_keepsRanges s
  · exact .trans (.of_same (by simp [SameFigures])) (enterAwake_keepsRanges (takeReference s))
  all_goals exact .refl s

/-! ### The encoder (R81 to R84, R89, R96) -/

/-- The index edge counts anew and ends the hold; the stage is evaluated in Awake (R83, R87). -/
theorem indexEdge_keepsRanges (s : State) : RangesKept s (indexEdge s) := by
  refine .of_crescendo (fun h => ?_) (by simp)
  have hzero : crescendoOk (s.setCrescendo { s.crescendo with count := 0, phaseErrors := 0, held := false }) := by
    obtain ⟨-, -, -, hprogram, hstage, hrepeat, hshoe⟩ := h
    refine ⟨Nat.zero_le _, Nat.zero_le _, by simp [Config.phaseErrorLimit], hprogram, hstage, hrepeat, fun hnone => ?_⟩
    obtain ⟨-, -, -, hstage0⟩ := hshoe hnone
    exact ⟨rfl, rfl, rfl, hstage0⟩
  unfold indexEdge
  dsimp only
  repeat' split
  · exact evaluateStage_crescendoOk (crescendoOk_congr (by simp) (by simp) hzero)
  · exact crescendoOk_congr (by simp) (by simp) hzero
  · exact h

/-- A console with a shoe has no rest to keep (R84). -/
theorem crescendoOk_of_encoder (hencoder : t.hasEncoder = true) (hcount : t.crescendo.count ≤ Config.maxCount)
    (herrors : t.crescendo.phaseErrors ≤ Config.phaseErrorLimit)
    (hheld : t.crescendo.held = true ↔ t.crescendo.phaseErrors = Config.phaseErrorLimit)
    (hrest : t.crescendo.program ≤ 3 ∧ t.crescendo.stage ≤ t.config.layout.stages
      ∧ t.crescendo.repeatCount < Config.repeatPeriods) :
    crescendoOk t := by
  obtain ⟨hprogram, hstage, hrepeat⟩ := hrest
  exact ⟨hcount, herrors, hheld, hprogram, hstage, hrepeat, fun hnone => by simp [hencoder] at hnone⟩

theorem moveCount_crescendoOk {p : Nat} (h : crescendoOk s) (hp : p ≤ Config.maxCount) (hencoder : s.hasEncoder = true) :
    crescendoOk (moveCount p s) := by
  have hmoved : crescendoOk (s.setCrescendo { s.crescendo with count := p }) := by
    obtain ⟨-, herrors, hheld, hprogram, hstage, hrepeat, -⟩ := h
    exact crescendoOk_of_encoder hencoder hp herrors hheld ⟨hprogram, hstage, hrepeat⟩
  unfold moveCount
  dsimp only
  split
  · exact evaluateStage_crescendoOk hmoved
  · exact hmoved

/-- The fourth phase error holds the stage, none before it does (R82). -/
theorem phaseError_crescendoOk (h : crescendoOk s) (hencoder : s.hasEncoder = true) : crescendoOk (phaseError s) := by
  have hunit := h
  obtain ⟨hcount, -, -, hprogram, hstage, hrepeat, -⟩ := hunit
  unfold phaseError
  dsimp only
  repeat' split
  · exact h
  · rename_i hfree hbelow
    have hheld : s.crescendo.held = true ↔ s.crescendo.phaseErrors + 1 = Config.phaseErrorLimit :=
      ⟨fun hheld => absurd hheld hfree, fun hlimit => absurd hlimit hbelow.ne⟩
    exact crescendoOk_of_encoder hencoder hcount hbelow.le hheld ⟨hprogram, hstage, hrepeat⟩
  · have hlimit : crescendoOk (s.setCrescendo { s.crescendo with phaseErrors := Config.phaseErrorLimit, held := true }) :=
      crescendoOk_of_encoder hencoder hcount le_rfl ⟨fun _ => rfl, fun _ => rfl⟩ ⟨hprogram, hstage, hrepeat⟩
    exact crescendoOk_congr (by simp) (by simp) hlimit

/-- A hand-over of the pair moves the count by one or is a phase error (R81, R82). -/
theorem judgePair_keepsRanges (a b : Bool) (hencoder : s.hasEncoder = true) : RangesKept s (judgePair a b s) := by
  refine .of_crescendo (fun h => ?_) (by simp)
  have hpair : crescendoOk (s.setCrescendo { s.crescendo with refA := a, refB := b }) := crescendoOk_congr rfl rfl h
  have hback : s.crescendo.count - 1 ≤ Config.maxCount := (Nat.sub_le _ 1).trans h.1
  unfold judgePair
  dsimp only
  repeat' split
  · exact hpair
  · exact moveCount_crescendoOk hpair (Nat.min_le_left _ _) hencoder
  · exact moveCount_crescendoOk hpair hback hencoder
  · exact phaseError_crescendoOk hpair hencoder
  · exact h

theorem pressProgram_keepsRanges (s : State) : RangesKept s (pressProgram s) := by
  refine .of_crescendo (fun h => ?_) (by simp)
  unfold pressProgram
  split
  · refine crescendoOk_congr (by simp) (by simp)
      (?_ : crescendoOk (s.setCrescendo { s.crescendo with program := (s.crescendo.program + 1) % 4 }))
    obtain ⟨hcount, herrors, hheld, -, hrest⟩ := h
    exact ⟨hcount, herrors, hheld, Nat.le_of_lt_succ (Nat.mod_lt _ (by decide)), hrest⟩
  · exact h

theorem countRepeat_keepsRanges (s : State) : RangesKept s (countRepeat s) := by
  refine .of_crescendo (fun h => ?_) (by simp)
  have hcounted : ∀ n < Config.repeatPeriods, crescendoOk (s.setCrescendo { s.crescendo with repeatCount := n }) := fun n hn => by
    obtain ⟨hcount, herrors, hheld, hprogram, hstage, -, hshoe⟩ := h
    exact ⟨hcount, herrors, hheld, hprogram, hstage, hn, hshoe⟩
  unfold countRepeat
  split
  · exact hcounted _ ‹_›
  · exact crescendoOk_congr (by simp) (by simp) (hcounted 0 (by decide))

/-! ### Changes of lines (R125 to R128) -/

theorem pressTutti_keepsRanges (s : State) : RangesKept s (pressTutti s) := by
  refine .ite ?_
  split
  all_goals exact .of_same (by simp [SameFigures])

theorem handPress_keepsRanges (f : LineFunction) (s : State) : RangesKept s (handPress f s) := by
  cases f with
  | generalPiston | divisionalPiston => exact .ite (.of_same (pressPiston_sameFigures _ _ s))
  | set => exact .ite (.of_same ⟨⟨rfl, rfl⟩, rfl, rfl, rfl⟩)
  | generalCancel => exact .ite (.of_same (cancelAll_sameFigures s))
  | divisionCancel d => exact pressDivisionCancel_keepsRanges d s
  | levelUp => exact pressLevelUp_keepsRanges s
  | levelDown => exact pressLevelDown_keepsRanges s
  | sequencerNext => exact pressNext_keepsRanges s
  | sequencerPrevious => exact pressPrevious_keepsRanges s
  | tutti => exact pressTutti_keepsRanges s
  | crescendoProgram => exact pressProgram_keepsRanges s
  | crescendoSet => exact .ite (.of_same (by simp [SameFigures]))
  | protect => exact pressProtect_keepsRanges s
  | consoleKey => exact judgeConsole_keepsRanges s
  | encoderIndex => exact indexEdge_keepsRanges s
  | stopSense | faultAcknowledge => exact .of_same (by simp [SameFigures, handPress])
  | unused | protectOverride | encoderA | encoderB => exact .refl s

theorem handRelease_keepsRanges (f : LineFunction) (s : State) : RangesKept s (handRelease f s) := by
  cases f with
  | stopSense => exact .of_same (by simp [SameFigures, handRelease])
  | consoleKey => exact judgeConsole_keepsRanges s
  | set | divisionCancel | generalPiston | divisionalPiston | generalCancel | levelUp | levelDown =>
    exact .ite (.of_same ⟨⟨rfl, rfl⟩, rfl, rfl, rfl⟩)
  | _ => exact .refl s

theorem handChange_keepsRanges (f : LineFunction) (v : Bool) (s : State) : RangesKept s (handChange f v s) := by
  unfold handChange
  repeat' split
  · exact handPress_keepsRanges f s
  · exact handRelease_keepsRanges f s
  · exact .refl s

theorem lineEvent_keepsRanges (carries : LineFunction → Bool) (n : Nat) (v : Bool) (s : State) :
    RangesKept s (lineEvent carries n v s) := by
  unfold lineEvent
  split
  · exact .trans (.of_same (by simp [SameFigures])) (handChange_keepsRanges _ v (qualify n v s))
  · exact .refl s

theorem handLines_keepsRanges (ns : List Nat) (s : State) : RangesKept s (ns.foldl handLine s) := by
  induction ns generalizing s with
  | nil => exact .refl s
  | cons n ns ih => exact (handChange_keepsRanges _ _ s).trans (ih (handLine s n))

theorem handLines_config (ns : List Nat) (s : State) : (ns.foldl handLine s).config = s.config := by
  induction ns generalizing s with
  | nil => rfl
  | cons n ns ih => exact (ih _).trans (by simp [handLine])

/-- The encoder's lines are assigned together, so a group that holds a track belongs to a console with a shoe (R84, R123). -/
theorem hasEncoder_of_groupHasTrack {m : Nat} (hs : configured s) (h : s.groupHasTrack m = true) : s.hasEncoder = true := by
  simp only [State.groupHasTrack, List.any_eq_true, Bool.or_eq_true, beq_iff_eq] at h
  obtain ⟨n, -, htrack⟩ := h
  obtain ⟨e, he, hfunction⟩ : ∃ e ∈ s.config.table, e.function = .encoderA ∨ e.function = .encoderB := by
    unfold State.functionOfLine at htrack
    split at htrack
    · rename_i e he
      exact ⟨e, List.mem_of_getElem? he, htrack⟩
    · simp at htrack
  have hlines : encoderLinesOk s.config.table = true := by
    unfold configured at hs
    cases hc : s.cfg with
    | none => simp [State.config, hc, noConfiguration] at he
    | some c =>
      simp only [hc, figuresOk, Bool.and_eq_true] at hs
      simp [State.config, hc, hs]
  have hA : 0 < s.config.table.countP fun e => e.function == .encoderA := by
    rcases (encoderLinesOk_iff _).1 hlines with hone | hnone
    · rw [hone .encoderA (by simp)]
      exact Nat.one_pos
    · rcases hfunction with hf | hf
      all_goals
        have habsent := List.countP_eq_zero.1 (hnone e.function (by simp [hf])) e he
        simp at habsent
  obtain ⟨a, ha, hf⟩ := List.countP_pos_iff.1 hA
  simpa [State.hasEncoder, State.lineOf] using ⟨a, ha, by simpa using hf⟩

theorem groupSample_keepsRanges (m : Nat) (contacts : Byte) (hs : configured s) :
    RangesKept s
      (if s.cfg.isSome ∧ m < 48 then
        let t := (s.changedLines m contacts).foldl handLine (sampleLines m contacts s)
        if s.groupHasTrack m then handPair t else t
      else s) := by
  split
  · have hsampled : RangesKept s (sampleLines m contacts s) := .of_same (by simp [SameFigures])
    have hlines := hsampled.trans (handLines_keepsRanges (s.changedLines m contacts) (sampleLines m contacts s))
    dsimp only
    split
    · rename_i htrack
      refine hlines.trans (judgePair_keepsRanges _ _ ?_)
      have hencoder := hasEncoder_of_groupHasTrack hs htrack
      simpa [State.hasEncoder, State.lineOf, handLines_config] using hencoder
    · exact hlines
  · exact .refl s

/-! ### The supply (R156) -/

/-- After a comparison Low1 stands unless the supply is above 9.5 V, and above it Low2 is released (R156). -/
theorem compareSupply_supplyOk (mv : Nat) (s : State) : supplyOk (compareSupply mv s) := by
  have hlow1 : ∀ u : State, (enterLow1 u).supply.low1 = true := fun u => by rw [enterLow1_eq]; rfl
  have hlow2 : ∀ u : State, (enterLow2 u).supply.low1 = u.supply.low1 := fun u => by rw [enterLow2_eq]
  have hreleased : ∀ u : State, (releaseLow2 u).supply.low2 = false := fun u => by rw [releaseLow2_eq]
  have hreleased1 : ∀ u : State, (releaseLow1 u).supply.low2 = u.supply.low2 := fun u => by rw [releaseLow1_eq]
  unfold supplyOk compareSupply
  dsimp only
  by_cases hmv : Config.low2Release < mv
  · rw [if_pos hmv]
    split <;> simp [hreleased, hreleased1]
  · have hbelow : mv < Config.low1Entry ∧ ¬ Config.low1Release < mv := by
      simp only [Config.low2Release, Config.low1Entry, Config.low1Release] at hmv ⊢
      omega
    rw [if_neg hmv, if_neg hbelow.2, if_pos hbelow.1]
    split <;> simp [hlow1, hlow2]

theorem supplyEvent_keepsRanges (crossed : Bool) (mv : Nat) (s : State) : RangesKept s (supplyEvent crossed mv s) := by
  unfold supplyEvent
  split
  · have hsame : RangesKept s ((compareSupply mv s).setSupply s.supply) := .of_same (by simp [SameFigures])
    exact ⟨hsame.levels, hsame.crescendo, fun _ => compareSupply_supplyOk mv s⟩
  · exact .refl s

/-- The comparison at power-on finds the supply below 10.5 V where it finds it below 9.0 V (R156). -/
theorem firstComparison_low (mv : Nat) (h : (firstComparison mv).low2 = true) : (firstComparison mv).low1 = true := by
  have hbelow : mv < 9000 := of_decide_eq_true h
  exact decide_eq_true (show mv < 10500 by omega)

/-! ### Start and Joining (R80, R154, R156, R166) -/

/-- Level 1 and an empty list are in range under every configuration (R20, R67). -/
theorem levelsOk_of_reset (h : t.recallUnit = State.reset.recallUnit ∧ t.sequencer = State.reset.sequencer) : levelsOk t := by
  obtain ⟨hrecall, hsequencer⟩ := h
  simp [levelsOk, hrecall, hsequencer, State.reset]

/-- A unit that has not moved is in range under every configuration (R79, R84). -/
theorem crescendoOk_of_rest (hprogram : t.crescendo.program ≤ 3) (hrepeat : t.crescendo.repeatCount < Config.repeatPeriods)
    (h : t.crescendo.count = 0 ∧ t.crescendo.phaseErrors = 0 ∧ t.crescendo.held = false ∧ t.crescendo.stage = 0) :
    crescendoOk t := by
  obtain ⟨hcount, herrors, hheld, hstage⟩ := h
  refine ⟨?_, ?_, ?_, hprogram, ?_, hrepeat, fun _ => ⟨hcount, herrors, hheld, hstage⟩⟩
  all_goals simp [hcount, herrors, hheld, hstage, Config.phaseErrorLimit]

/-- A station whose blocks stand at their start values (R166). -/
theorem RangesKept.of_renewed (hlevels : t.recallUnit = State.reset.recallUnit ∧ t.sequencer = State.reset.sequencer)
    (hcrescendo : t.crescendo = State.reset.crescendo) (hsupply : supplyOk s → supplyOk t) : RangesKept s t := by
  refine ⟨fun _ => levelsOk_of_reset hlevels, fun _ => crescendoOk_of_rest ?_ ?_ ?_, hsupply⟩
  all_goals rw [hcrescendo]
  · decide
  · decide
  · exact ⟨rfl, rfl, rfl, rfl⟩

/-- A station of no configuration is at level 1 with its Crescendo Unit at rest, and so the accepted one finds it (R20, R84,
R166). -/
theorem enterJoining_keepsRanges {c : Configuration} (contacts : BitVec 384) (hnone : s.cfg = none) (hu : SameFigures s u) :
    RangesKept s (enterJoining (acceptConfiguration c contacts u)) := by
  obtain ⟨⟨hlevel, -⟩, hfigures, hsupply, -⟩ := hu
  set w := acceptConfiguration c contacts u
  have hlevelEnd : (enterJoining w).recallUnit.level = s.recallUnit.level := by
    simp [enterJoining, w, acceptConfiguration, hlevel]
  have hfiguresEnd : unitFigures (enterJoining w).crescendo = unitFigures s.crescendo := by
    simp [enterJoining, w, acceptConfiguration, hfigures]
  have hsupplyEnd : (enterJoining w).supply = s.supply := by simp [enterJoining, w, acceptConfiguration, hsupply]
  refine ⟨fun h => ?_, fun h => ?_, fun h => by rwa [supplyOk, hsupplyEnd]⟩
  · obtain ⟨hlow, hhigh, -⟩ := h
    have hone : (enterJoining w).recallUnit.level = 1 := by
      rw [hlevelEnd]
      simp only [State.config, hnone, Option.getD_none, noConfiguration] at hhigh
      omega
    exact ⟨hone.ge, hone ▸ Nat.le_max_left _ _, loadLevel_list 1 _⟩
  · obtain ⟨-, -, -, hprogram, -, hrepeat, hshoe⟩ := h
    have hrest := hshoe (by simp [State.hasEncoder, State.lineOf, State.config, hnone, noConfiguration])
    simp only [unitFigures, Prod.mk.injEq] at hfiguresEnd
    obtain ⟨hcount, herrors, hheld, hprogramEnd, hstage, hrepeatEnd⟩ := hfiguresEnd
    exact crescendoOk_of_rest (hprogramEnd ▸ hprogram) (hrepeatEnd ▸ hrepeat)
      (by simpa [hcount, herrors, hheld, hstage] using hrest)

theorem leaveStart_keepsRanges (strap : Bool) (contacts : BitVec 384) (hnone : s.cfg = none) :
    RangesKept s (leaveStart strap contacts s) := by
  unfold leaveStart
  dsimp only
  repeat' split
  · exact .of_same (by simp [SameFigures])
  · exact enterJoining_keepsRanges contacts hnone (by simp [SameFigures])
  · exact .of_same (by simp [SameFigures])

theorem enterRestarting_keepsRanges (cause : StartCause) (s : State) : RangesKept s (enterRestarting cause s) := by
  unfold enterRestarting
  split
  · exact .refl s
  · exact .of_same (by simp [SameFigures, stopBlocks, dropCounts])

/-- The policy is a local change; then the station enters Awake or Dormant (R154). -/
theorem joinEnd_keepsRanges (s : State) :
    RangesKept s
      (if s.station = .joining then
        let t := applyPolicy (s.setStart { s.start with joinMs := Config.joinMs })
        if t.consoleOn then enterAwake t else enterDormant t
      else s) := by
  refine .ite ?_
  have hpolicy : RangesKept s (applyPolicy (s.setStart { s.start with joinMs := Config.joinMs })) :=
    .of_same (by simp [SameFigures])
  dsimp only
  split
  · exact hpolicy.trans (enterAwake_keepsRanges _)
  · exact hpolicy.trans (enterDormant_keepsRanges _)

/-! ### Received frames (R144) -/

theorem dispatch_keepsRanges (origin : Nat) (f : Frame) (s : State) : RangesKept s (dispatch origin f s) := by
  cases f with
  | restart => exact .ite (enterRestarting_keepsRanges _ s)
  | configurationRead | configurationWrite | slotWrite | memoryClear => exact .ite (.of_same (by simp [SameFigures]))
  | _ => exact .of_same (by simp [SameFigures, dispatch])

theorem receive_keepsRanges (origin : Nat) (f : Frame) (s : State) : RangesKept s (receive origin f s) := by
  have hended : RangesKept s (frameEnded s) := .of_same ⟨⟨rfl, rfl⟩, rfl, rfl, rfl⟩
  unfold receive
  dsimp only
  repeat' split
  · exact hended.trans (.of_same (by simp [SameFigures]))
  · exact hended.trans (dispatch_keepsRanges origin f _)
  · exact hended
  · exact .refl s

/-! ### What every step keeps -/

/-- Every command of a configured station keeps the three ranges. -/
theorem exec_keepsRanges {c : Instr} (hs : configured s) (h : exec c s = .next t) : RangesKept s t := by
  have next : ∀ {u : State}, exec c s = .next u → RangesKept s u → RangesKept s t := fun hu hP =>
    Host.Outcome.next.inj (hu.symm.trans h) ▸ hP
  cases c with
  | powerOn mv => exact next rfl (.ite (.of_renewed ⟨rfl, rfl⟩ rfl fun _ => firstComparison_low mv))
  | lossOfPower torn =>
    refine next rfl ?_
    split
    · exact .refl s
    · exact .of_renewed ⟨rfl, rfl⟩ rfl fun _ => by simp [supplyOk, State.reset]
  | startAfterRestarting => exact next rfl (.ite (.of_renewed ⟨rfl, rfl⟩ rfl id))
  | configurationCheck contacts =>
    refine next rfl ?_
    repeat' split
    · exact leaveStart_keepsRanges _ contacts (configured_start hs ‹_›)
    all_goals exact .refl s
  | restartLinePress =>
    refine next rfl ?_
    split
    · exact .refl s
    · exact .trans (.of_same (by simp [SameFigures])) (enterRestarting_keepsRanges _ (s.setScanner _))
  | fixedLineSample restart strap =>
    refine next rfl ?_
    dsimp only
    repeat' split
    · exact .refl s
    · exact .trans (.of_same (by simp [SameFigures])) (enterRestarting_keepsRanges _ (s.setScanner _))
    · exact .of_same (by simp [SameFigures])
  | stopSenseChange | generalPiston | divisionalPiston | setPress | setRelease | generalCancel | divisionCancelPress
  | divisionCancelRelease | levelUp | levelDown | protect | sequencerNext | sequencerPrevious | tutti | crescendoProgram
  | crescendoSet | lineRelease | consoleKey | faultAcknowledge => exact next rfl (lineEvent_keepsRanges _ _ _ s)
  | indexEdge =>
    refine next rfl ?_
    split
    · exact lineEvent_keepsRanges _ _ _ s
    · exact .refl s
  | encoderHandover a b =>
    refine next rfl ?_
    split
    · rename_i hencoder
      refine .trans (.of_same (by simp [SameFigures])) (judgePair_keepsRanges a b ?_)
      simpa [State.hasEncoder, State.lineOf] using hencoder
    · exact .refl s
  | groupSample m contacts => exact next rfl (groupSample_keepsRanges m contacts hs)
  | low1Entry | low1Release | low2Entry | low2Release => exact next rfl (supplyEvent_keepsRanges _ _ s)
  | pulseEnd | settleEnd | writeReadback | retentionRefreshWrite | peerSilent | peerAbsent =>
    simp only [exec, execPulseEnd, execSettleEnd, execWriteReadback, execRetentionRefreshWrite, execPeerSilent, execPeerAbsent]
      at h
    repeat' split at h
    all_goals cases h
    all_goals exact .of_same (by simp [SameFigures])
  | heartbeatPeriod =>
    refine next rfl (.ite ?_)
    dsimp only
    split
    · exact .trans (.of_same (by simp [SameFigures])) (countRepeat_keepsRanges _)
    · exact .of_same (by simp [SameFigures])
  | joinEnd => exact next rfl (joinEnd_keepsRanges s)
  | registrationChange | registrationRefresh | crescendo | crescendoRepeatReceived | heartbeat | faultNoticeReceived
  | serviceReplyReceived | configurationRead | configurationWrite | slotWrite | memoryClear | restart =>
    exact next rfl (receive_keepsRanges _ _ s)
  | numberClash => exact next rfl (.ite (.of_same (by simp [SameFigures, frameEnded])))
  | frameDiscarded framing bytes =>
    refine next rfl ?_
    split
    · exact receive_keepsRanges _ _ s
    · unfold Machine.discard
      dsimp only
      repeat' split
      all_goals exact .of_same ⟨⟨rfl, rfl⟩, rfl, rfl, rfl⟩
  | sendAbort =>
    refine next rfl ?_
    split
    all_goals exact .of_same ⟨⟨rfl, rfl⟩, rfl, rfl, rfl⟩
  | sendBegin k =>
    refine next rfl (.ite ?_)
    split
    all_goals exact .of_same ⟨⟨rfl, rfl⟩, rfl, rfl, rfl⟩
  | idleReady | lineIdle | lineBusy | sendComplete => exact next rfl (.ite (.of_same ⟨⟨rfl, rfl⟩, rfl, rfl, rfl⟩))
  | lampAnswerEnd l => exact next rfl (.of_same ⟨⟨rfl, rfl⟩, rfl, rfl, rfl⟩)

/-- One millisecond touches none of the figures. -/
theorem tick_keepsRanges (s : State) : RangesKept s (tick s) := by
  unfold tick
  split
  · exact .refl s
  · exact .of_same ⟨⟨rfl, rfl⟩, rfl, rfl, rfl⟩

end RangesKept

/-- Settles O10: a step is a command with the rest of the queue behind it, or one millisecond, and both keep the ranges. -/
theorem stepKeepsTheRanges : Obligations.StepKeepsTheRanges := by
  unfold Obligations.StepKeepsTheRanges
  intro s t hs h
  unfold step at h
  split at h
  · rename_i c rest _
    obtain ⟨hlevels, hcrescendo, hsupply⟩ := exec_keepsRanges (s := s.setPending rest) hs h
    exact ⟨hlevels, hcrescendo, hsupply⟩
  · obtain rfl := Host.Outcome.next.inj h
    obtain ⟨hlevels, hcrescendo, hsupply⟩ := tick_keepsRanges s
    exact ⟨hlevels, hcrescendo, hsupply⟩

end Sys2Proof.Proofs
end

section
/-!
PROOFS. The statements about the Console key, the presses of the Crescendo Unit, the encoder, the calibration and received crescendo
frames. First the lines by their functions, then the calibration as arithmetic, then what each event leaves.
-/

namespace Sys2Proof.Proofs

open Sys2Proof Sys2Proof.Machine Sys2Proof.Safety

/-! ### Lines by their functions (R84, R120, R129) -/

theorem functionOfLine_of_lineOf {s : State} {f : LineFunction} {x : Nat} (h : s.lineOf f = some x) : s.functionOfLine x = f := by
  rw [State.lineOf, List.findIdx?_eq_some_iff_getElem] at h
  obtain ⟨hlt, hmatch, -⟩ := h
  rw [State.functionOfLine, List.getElem?_eq_getElem hlt]
  exact beq_iff_eq.1 hmatch

theorem lineOf_eq_none_iff (s : State) (f : LineFunction) : s.lineOf f = none ↔ ∀ e ∈ s.config.table, e.function ≠ f := by
  simp [State.lineOf]

theorem hasEncoder_of_lineOf {s : State} {x : Nat} (h : s.lineOf .encoderA = some x) : s.hasEncoder = true := by
  simp [State.hasEncoder, h]

/-! ### The Console key (R80, R116, R117, R129) -/

theorem consoleOn_iff (s : State) : s.consoleOn = true ↔
    (∀ e ∈ s.config.table, e.function ≠ .consoleKey) ∨ lineActive s .consoleKey := by
  rw [State.consoleOn, Bool.or_eq_true, Option.isNone_iff_eq_none, lineOf_eq_none_iff, anyActive_iff]

/-- The console's judgement: an Awake station goes to Dormant with the console off, a Dormant one to Awake with it on (R129). -/
theorem judgeConsole_eq (s : State) : judgeConsole s =
    if s.station = .awake ∧ s.consoleOn = false then enterDormant s
    else if s.station = .dormant ∧ s.consoleOn = true then enterAwake (takeReference s)
    else s := by
  unfold judgeConsole
  cases s.station with
  | awake => cases s.consoleOn <;> simp
  | dormant => simp
  | off | start | unconfigured | service | joining | restarting => simp

/-- The Console key's line qualifies and the console is judged; out of play nothing is handed on, and the judgement is none (R128,
R129). -/
theorem exec_consoleKey {s : State} {n : Nat} (active : Bool) (hf : s.functionOfLine n = .consoleKey) :
    exec (.consoleKey n active) s = .next (judgeConsole (atLine s n active)) := by
  have hcarries : (s.functionOfLine n == .consoleKey) = true := beq_iff_eq.2 hf
  rw [exec, execConsoleKey]
  by_cases hplay : s.station.inPlay = true
  · rw [lineEvent_key hcarries hf hplay]
  · have hplaces := mt (inPlay_iff s).2 hplay
    have hnotHanded : handsOn s.station (s.functionOfLine n) active = false := by
      cases hs : s.station <;> simp_all [handsOn]
    rw [lineEvent_only hcarries hnotHanded, judgeConsole_eq, if_neg fun h => hplaces (.inr (.inl h.1)),
      if_neg fun h => hplaces (.inr (.inr h.1))]

/-- Settles O29: the console's judgement after the line has qualified enters Dormant, enters Awake with a fresh reference pair, or
leaves the station. -/
theorem consoleKeyMovesTheStation : Obligations.ConsoleKeyMovesTheStation := by
  unfold Obligations.ConsoleKeyMovesTheStation
  refine ⟨consoleOn_iff, ?_⟩
  intro s n active hf hmotion u
  have hjudged : judgeConsole u = if s.station = .awake ∧ u.consoleOn = false then enterDormant u
      else if s.station = .dormant ∧ u.consoleOn = true then enterAwake (takeReference u) else u := judgeConsole_eq u
  refine ⟨judgeConsole u, exec_consoleKey active hf, fun hoff => ?off, fun hon => ?on, fun ⟨hawake, hdormant⟩ => ?neither⟩
  case off =>
    rw [hjudged, if_pos hoff]
    exact enterDormant_entered u
  case on =>
    have hnot : s.station ≠ .awake := by simp [hon.1]
    obtain ⟨hqueue, haside⟩ := motionOk_asleep hmotion hnot
    rw [hjudged, if_neg fun h => hnot h.1, if_pos hon]
    exact enterAwake_entered (takeReference u) hqueue fun r hr => by rw [haside r hr]; simp
  case neither => rw [hjudged, if_neg hawake, if_neg hdormant]

/-! ### Tutti and program presses (R89, R90, R92) -/

/-- Settles O38: each press reaches the Crescendo Unit once the line has qualified, and forms the additions of the unit as it leaves
it. -/
theorem tuttiAndProgramPresses : Obligations.TuttiAndProgramPresses := by
  unfold Obligations.TuttiAndProgramPresses
  intro s n hs
  have hu : (atLine s n true).station = .awake := hs
  have hformed : ∀ w : CrescendoUnit, AdditionsFormed s.crescendo { atLine s n true with crescendo := w }
      (formAdditions s.crescendo { atLine s n true with crescendo := w }) := fun w =>
    formAdditions_formed _ s.crescendo (by simp [hs, Station.inPlay])
  refine ⟨fun hf hset => ⟨_, ?tutti, hformed _⟩, fun hf => ⟨_, ?program, hformed _⟩, fun hf hset => ?unset⟩
  case tutti =>
    rw [exec, execTutti, lineEvent_pressed hf rfl hs, handPress, pressTutti, if_pos hu, if_neg (by simpa using hset), setTutti,
      if_neg (by simp)]
    rfl
  case program =>
    rw [exec, execCrescendoProgram, lineEvent_pressed hf rfl hs, handPress, pressProgram, if_pos hu]
    rfl
  case unset =>
    rw [exec, execCrescendoSet, lineEvent_pressed hf rfl hs, handPress, pressCrescendoSet, if_neg (by simpa using fun _ => hset)]

/-! ### The encoder (R81 to R84) -/

/-- s once lines x and y have the qualified states of tracks A and B (R121). -/
def tracksTaken (s : State) (x y : Nat) (a b : Bool) : State :=
  { s with scanner := { s.scanner with lines := (s.scanner.lines.modify x (lineTaken a)).modify y (lineTaken b) } }

theorem exec_encoderHandover {s : State} {x y : Nat} (a b : Bool) (hx : s.lineOf .encoderA = some x)
    (hy : s.lineOf .encoderB = some y) :
    exec (.encoderHandover a b) s = .next (judgePair a b (tracksTaken s x y a b)) := by
  have hA : qualifyFunction .encoderA a s = atLine s x a := by rw [qualifyFunction, hx]; exact qualify_eq
  have hB : qualifyFunction .encoderB b (atLine s x a) = tracksTaken s x y a b := by
    rw [qualifyFunction, show (atLine s x a).lineOf .encoderB = some y from hy]
    exact qualify_eq
  rw [exec, execEncoderHandover, if_pos (hasEncoder_of_lineOf hx), hA, hB]

/-- The places between the old pair and the new one around the cycle: none, one forward, one backward, two (R81, R82). -/
theorem phase_steps (a b : Bool) :
    (phase a b + 4 - phase a b) % 4 = 0 ∧ (phase (!b) a + 4 - phase a b) % 4 = 1
      ∧ (phase b (!a) + 4 - phase a b) % 4 = 3 ∧ (phase (!a) (!b) + 4 - phase a b) % 4 = 2 := by
  cases a <;> cases b <;> decide

/-- The count takes the value p; in Awake a change of it evaluates the stage (R87). -/
theorem moveCount_evaluated (p : Nat) (s : State) :
    let counted := { s with crescendo := { s.crescendo with count := p } }
    if s.station = .awake ∧ p ≠ s.crescendo.count then StageEvaluated counted (moveCount p s) else moveCount p s = counted := by
  dsimp only
  split
  case isTrue h =>
    rw [moveCount, if_pos h]
    exact evaluateStage_evaluated _ h.1
  case isFalse h =>
    rw [moveCount, if_neg h]
    rfl

theorem phaseError_eq (s : State) : phaseError s =
    if s.crescendo.held = true then s
    else if s.crescendo.phaseErrors + 1 < 4 then
      { s with crescendo := { s.crescendo with phaseErrors := s.crescendo.phaseErrors + 1 } }
    else reported .encoder { s with crescendo := { s.crescendo with phaseErrors := 4, held := true } } := by
  simp only [phaseError, latch_reported]
  rfl

/-- The index edge in play: the count from 0, the errors and the hold cleared, a drift reported, in Awake the stage evaluated
(R83). -/
theorem indexEdge_eq {s : State} (h : s.station.inPlay = true) :
    let u := { s with crescendo := { s.crescendo with count := 0, phaseErrors := 0, held := false } }
    let v := if 16 < s.crescendo.count then reported .encoder u else u
    indexEdge s = if s.station = .awake then evaluateStage v else v := by
  simp only [indexEdge, if_pos h, latchIf_reported, decide_eq_true_eq]
  rfl

/-- The press of the Encoder index line reaches the unit in Joining, Awake and Dormant (R83, R128). -/
theorem exec_indexEdge {s : State} {x : Nat} (h : s.station.inPlay = true) (hx : s.lineOf .encoderIndex = some x) :
    exec .indexEdge s = .next (indexEdge (atLine s x true)) := by
  have hf := functionOfLine_of_lineOf hx
  rw [exec, execIndexEdge, hx]
  simp only [lineEvent, hf, beq_self_eq_true, if_true, qualify_eq, handChange]
  rw [if_pos (by rcases (inPlay_iff s).1 h with hs | hs | hs <;> simp [hs, handsOn])]
  rfl

/-- Settles O40: the hand-over is the pair's step around the cycle once both lines are taken, the index edge a press of its line. -/
theorem theShoeIsCounted : Obligations.TheShoeIsCounted := by
  unfold Obligations.TheShoeIsCounted
  refine ⟨fun s x y a b hs hx hy => ?handover, fun s x hs hx => ?edge, fun s x hs hx => ?restarting,
    fun s x y a b hjoining hawake hx hy => ?unjudged, fun s hnone => ?noIndex, fun s a b hnone => ?noTracks⟩
  case handover =>
    intro u counted evaluated
    obtain ⟨hsame, hforward, hbackward, hboth⟩ := phase_steps s.crescendo.refA s.crescendo.refB
    refine ⟨_, exec_encoderHandover a b hx hy, ?_, ?_, ?_, ?_⟩
    all_goals
      rintro ⟨rfl, rfl⟩
      rw [judgePair, if_pos (by exact hs)]
    · simp only [tracksTaken, hsame]
      rfl
    · simp only [tracksTaken, hforward]
      exact moveCount_evaluated _ u
    · simp only [tracksTaken, hbackward]
      exact moveCount_evaluated _ u
    · simp only [tracksTaken, hboth]
      exact phaseError_eq u
  case edge =>
    intro u v
    have hplay : s.station.inPlay = true := (inPlay_iff s).2 hs
    have hv : v.station = s.station := by simp only [v]; split <;> rfl
    have hedge : indexEdge (atLine s x true) = if s.station = .awake then evaluateStage v else v :=
      indexEdge_eq (s := atLine s x true) hplay
    refine ⟨_, exec_indexEdge hplay hx, fun hawake => ?_, fun hnot => ?_⟩
    · rw [hedge, if_pos hawake]
      exact evaluateStage_evaluated v (hv.trans hawake)
    · rw [hedge, if_neg hnot]
  case restarting =>
    have hf := functionOfLine_of_lineOf hx
    rw [exec, execIndexEdge, hx]
    simp only
    rw [lineEvent_only (by simp [hf]) (by rw [hs]; rfl)]
  case unjudged =>
    rw [exec_encoderHandover a b hx hy, judgePair, if_neg (by simp [tracksTaken, hjoining, hawake])]
    rfl
  case noIndex => rw [exec, execIndexEdge, hnone]
  case noTracks => rw [exec, execEncoderHandover, if_neg (by simp [State.hasEncoder, hnone])]

/-! ### The calibration (R85, R86) -/

/-- Steps 2 and 3 of R85: x with the bow's correction, before it is limited to 0 to 1000. -/
def bowed (bow x : Int) : Int := x + (bow * x * (1000 - x)).tdiv 250000

theorem calibrated_eq (c : Configuration) (p : Nat) :
    (calibrated c p : Int) = max 0 (min 1000 (bowed c.bow (shoePosition c p))) :=
  Int.toNat_of_nonneg (le_max_left _ _)

/-- A product that falls by less than the divisor loses at most 1 in the quotient. -/
theorem tdiv_sub_one_le {a b : Int} (h : a - 250000 ≤ b) : a.tdiv 250000 - 1 ≤ b.tdiv 250000 := by
  rw [Int.tdiv_eq_ediv, Int.tdiv_eq_ediv, show Int.sign 250000 = 1 from rfl]
  split_ifs <;> omega

/-- A bow within a signed byte bends less than the shoe rises: 127 times 999 stays below the divisor (R85). -/
theorem bowed_le_succ {bow : Int} (hlow : -127 ≤ bow) (hhigh : bow ≤ 127) {x : Nat} (hx : x < 1000) :
    bowed bow x ≤ bowed bow (x + 1 : Nat) := by
  have hstep : bow * (x + 1 : Nat) * (1000 - (x + 1 : Nat)) = bow * x * (1000 - x) + bow * (999 - 2 * x) := by
    push_cast
    ring
  have hbend : -250000 ≤ bow * (999 - 2 * x) := by nlinarith
  have hquotient := tdiv_sub_one_le (a := bow * x * (1000 - x)) (b := bow * (x + 1 : Nat) * (1000 - (x + 1 : Nat)))
    (by rw [hstep]; linarith)
  unfold bowed
  push_cast at hquotient ⊢
  linarith

theorem bowed_mono {bow : Int} (hlow : -127 ≤ bow) (hhigh : bow ≤ 127) {x y : Nat} (hxy : x ≤ y) (hy : y ≤ 1000) :
    bowed bow x ≤ bowed bow y := by
  induction y, hxy using Nat.le_induction with
  | base => exact le_rfl
  | succ y _ ih => exact (ih (by omega)).trans (bowed_le_succ hlow hhigh (by omega))

theorem shoePosition_le (c : Configuration) (p : Nat) : shoePosition c p ≤ 1000 := by
  unfold shoePosition
  split
  · omega
  split
  · omega
  · exact Nat.div_le_of_le_mul (Nat.mul_le_mul_right _ (Nat.sub_le_sub_right (by omega) _))

theorem shoePosition_mono (c : Configuration) {p q : Nat} (hpq : p ≤ q) : shoePosition c p ≤ shoePosition c q := by
  by_cases hopen : c.closed < q ∧ c.opened ≤ q
  · have hq : shoePosition c q = 1000 := by rw [shoePosition, if_neg (by omega), if_pos hopen.2]
    exact hq ▸ shoePosition_le c p
  by_cases hclosed : p ≤ c.closed
  · rw [shoePosition, if_pos hclosed]
    exact Nat.zero_le _
  · rw [shoePosition, shoePosition, if_neg hclosed, if_neg (by omega), if_neg (by omega), if_neg (by omega)]
    exact Nat.div_le_div_right (Nat.mul_le_mul_right _ (Nat.sub_le_sub_right hpq _))

theorem calibrated_mono {c : Configuration} (hlow : -127 ≤ c.bow) (hhigh : c.bow ≤ 127) {p q : Nat} (hpq : p ≤ q) :
    calibrated c p ≤ calibrated c q := by
  have hbowed := bowed_mono hlow hhigh (shoePosition_mono c hpq) (shoePosition_le c q)
  have hp := calibrated_eq c p
  have hq := calibrated_eq c q
  omega

/-- Settles O41: the calibration is monotone as its two parts are, and the stage is selected by the two candidates. -/
theorem calibrationAndStage : Obligations.CalibrationAndStage := by
  unfold Obligations.CalibrationAndStage
  intro c p q stage hshoe hlow hhigh hpq x y r rh
  have hx : x = shoePosition c p := by
    simp only [x, shoePosition]
    split_ifs <;> rfl
  have hy : (y : Int) = max 0 (min 1000 (bowed c.bow x)) := hx ▸ calibrated_eq c p
  have hselect : selectStage c y stage = if stage < r then r else if rh < stage then rh else stage := rfl
  refine ⟨hy, by omega, fun hclosed => ?closed, fun hopen => ?opened, calibrated_mono hlow hhigh hpq, fun hrise => ?rises,
    fun hno hfall => ?falls, fun hno hstay => ?stays, selectStage_le c y⟩
  case closed =>
    rw [show x = 0 from if_pos hclosed] at hy
    simpa [bowed] using hy
  case opened =>
    rw [show x = 1000 from (if_neg (by omega)).trans (if_pos hopen)] at hy
    exact_mod_cast (show (y : Int) = 1000 by simpa [bowed] using hy)
  case rises => rw [hselect, if_pos hrise]
  case falls => rw [hselect, if_neg (by omega), if_pos hfall]
  case stays => rw [hselect, if_neg (by omega), if_neg (by omega)]

/-! ### Crescendo frames received (R97, R147, R152) -/

/-- A crescendo frame or repeat that reaches the station goes to the Peer Table once the line view is as its end leaves it. -/
theorem exec_crescendoFrame {s : State} {o : Nat} {content : CrescendoContent} {f : Frame}
    (hf : f = .crescendo content ∨ f = .crescendoRepeat content) (h : heard s o f) :
    exec (frameCommand o f) s = .next (takeContribution o content (frameTaken s)) := by
  rw [exec_request h]
  rcases hf with rfl | rfl <;> rfl

theorem takeContribution_taken {s : State} {n : Nat} {p : Peer} (content : CrescendoContent) (hs : s.station.inPlay = true)
    (hn : s.peers[n]? = some (some p)) (hindex : peerIndex s.peers p.station .combination = some n) :
    takeContribution p.station content s = formEffective { s with peers := s.peers.set n (some { p with contribution :=
      { stage := content.stage, tutti := content.tutti, additions := content.additions } }) } := by
  have hget : s.peers.getD n none = some p := by simp [List.getD_eq_getElem?_getD, hn]
  rw [takeContribution, if_pos hs, hindex]
  simp only [hget]
  rfl

theorem takeContribution_dropped {s : State} {o : Nat} (content : CrescendoContent)
    (h : s.station.inPlay = false ∨ peerIndex s.peers o .combination = none) : takeContribution o content s = s := by
  unfold takeContribution
  rcases h with h | h <;> simp [h]

/-- Settles O55: the frame goes to the record of its sender's number and kind, which is the only one, or is dropped. -/
theorem crescendoFramesBecomeContributions : Obligations.CrescendoFramesBecomeContributions := by
  unfold Obligations.CrescendoFramesBecomeContributions
  intro s o content f hf hheard inPlay u
  have hexec := exec_crescendoFrame hf hheard
  refine ⟨fun n p hpeers hplay hn ho hkind => ⟨_, hexec, ?taken⟩, fun hnone => ?noRecord, fun hnot => ?outOfPlay⟩
  case taken =>
    have hu : u.station.inPlay = true := (inPlay_iff s).2 hplay
    subst ho
    rw [takeContribution_taken (s := u) content hu hn (hkind ▸ peerIndex_eq hn hpeers.2.2.1), formEffective_eq _ (by exact hu)]
    rfl
  case noRecord => rw [hexec, takeContribution_dropped (s := frameTaken s) content (.inr (peerIndex_none hnone))]
  case outOfPlay =>
    have hout : s.station.inPlay = false := Bool.eq_false_iff.2 fun h => hnot ((inPlay_iff s).1 h)
    rw [hexec, takeContribution_dropped (s := frameTaken s) content (.inl hout)]

end Sys2Proof.Proofs
end

section
/-!
PROOFS. The statements about the drawknob motion: the motion law and what keeps it, the ends of pulses and settle windows, and the
fault acknowledge. First what an update of the records and the start of pulses do to the law, then each operation, then every
command.
-/

namespace Sys2Proof.Proofs

open Sys2Proof Sys2Proof.Machine Sys2Proof.Safety

/-! ### Counting coils (R107) -/

theorem countP_or_of_disjoint {α : Type} {p q : α → Bool} {l : List α} (h : ∀ x ∈ l, p x = true → q x = false) :
    l.countP (fun x => p x || q x) = l.countP p + l.countP q := by
  induction l with
  | nil => rfl
  | cons x l ih =>
    obtain ⟨hx, hl⟩ := List.forall_mem_cons.1 h
    rw [List.countP_cons, List.countP_cons, List.countP_cons, ih hl]
    cases hp : p x with
    | false => cases q x <;> simp [Nat.add_assoc]
    | true => simp [hx hp, Nat.add_right_comm]

/-- As many records as controls, where each control has its record (R102). -/
theorem countP_key_mem {l : List MotionRecord} {ks : List (Nat × Nat)} (hl : (l.map MotionRecord.key).Nodup) (hks : ks.Nodup)
    (hsub : ∀ k ∈ ks, k ∈ l.map MotionRecord.key) : l.countP (fun r => decide (r.key ∈ ks)) = ks.length := by
  have hperm : ((l.map MotionRecord.key).filter (· ∈ ks)).Perm ks :=
    (List.perm_ext_iff_of_nodup (hl.filter _) hks).2 fun k => by
      rw [List.mem_filter, decide_eq_true_iff]
      exact and_iff_right_of_imp (hsub k)
  calc l.countP (fun r => decide (r.key ∈ ks))
      = (l.map MotionRecord.key).countP (· ∈ ks) := by rw [List.countP_map]; rfl
    _ = ks.length := by rw [List.countP_eq_length_filter, hperm.length_eq]

/-! ### The motion law of a motion (R102, R103, R105, R107) -/

/-- The motion law of m under configuration c, with each record as ok says. -/
structure MotionLaw (c : Configuration) (ok : MotionRecord → Prop) (m : Motion) : Prop where
  controls : m.records.map MotionRecord.key = c.sensedControls
  records : ∀ r ∈ m.records, ok r
  nodup : m.queue.Nodup
  queued : ∀ k, k ∈ m.queue ↔ ∃ r ∈ m.records, r.key = k ∧ r.state = .queued
  energized : m.energized = m.records.countP (·.coil.isSome)
  budget : m.energized ≤ c.budget

/-- A record is sound in a station state: Unaligned outside Awake and never in it (R102, R103). -/
def soundIn (st : Station) (r : MotionRecord) : Prop := recordOk r ∧ (r.state = .unaligned ↔ st ≠ .awake)

theorem motionOk_iff {s : State} : motionOk s ↔ MotionLaw s.config (soundIn s.station) s.motion :=
  ⟨fun ⟨hcontrols, hrecords, hnodup, hqueued, henergized, hbudget⟩ =>
      ⟨hcontrols, hrecords, hnodup, hqueued, henergized, hbudget⟩,
    fun ⟨hcontrols, hrecords, hnodup, hqueued, henergized, hbudget⟩ =>
      ⟨hcontrols, hrecords, hnodup, hqueued, henergized, hbudget⟩⟩

/-- The law speaks of motion, configuration and whether the station is Awake. -/
theorem motionOk_congr {s t : State} (h : motionOk s) (hmotion : t.motion = s.motion) (hcfg : t.cfg = s.cfg)
    (hawake : t.station = .awake ↔ s.station = .awake) : motionOk t := by
  simpa only [motionOk, State.config, hmotion, hcfg, ne_eq, hawake] using h

/-- An operation that leaves motion, configuration and station state. -/
theorem motionOk_of_same {s t : State} (h : motionOk s) (hsame : t.motion = s.motion ∧ t.cfg = s.cfg ∧ t.station = s.station) :
    motionOk t := by
  obtain ⟨hmotion, hcfg, hstation⟩ := hsame
  exact motionOk_congr h hmotion hcfg (by rw [hstation])

/-- f leaves a record's control and its coil. -/
def KeepsCoil (f : MotionRecord → MotionRecord) : Prop := ∀ r, (f r).key = r.key ∧ (f r).coil = r.coil

theorem KeepsCoil.ite {p : MotionRecord → Prop} [DecidablePred p] {f : MotionRecord → MotionRecord} (hf : KeepsCoil f) :
    KeepsCoil fun r => if p r then f r else r := fun r => by
  dsimp only
  split
  · exact hf r
  · exact ⟨rfl, rfl⟩

theorem KeepsCoil.onRecord {f : MotionRecord → MotionRecord} (hf : KeepsCoil f) (d i : Nat) : KeepsCoil (onRecord d i f) :=
  KeepsCoil.ite (p := fun r => r.d = d ∧ r.i = i) hf

theorem KeepsCoil.countP {f : MotionRecord → MotionRecord} (hf : KeepsCoil f) (l : List MotionRecord) :
    (l.map f).countP (·.coil.isSome) = l.countP (·.coil.isSome) := by
  rw [List.countP_map]
  exact List.countP_congr fun r _ => by simp [(hf r).2]

theorem KeepsCoil.controls {f : MotionRecord → MotionRecord} (hf : KeepsCoil f) (l : List MotionRecord) :
    (l.map f).map MotionRecord.key = l.map MotionRecord.key := by
  rw [List.map_map]
  exact List.map_congr_left fun r _ => (hf r).1

section MotionLaw

variable {c : Configuration} {ok ok' : MotionRecord → Prop} {m : Motion} {f : MotionRecord → MotionRecord}

theorem MotionLaw.nodup_keys (h : MotionLaw c ok m) : (m.records.map MotionRecord.key).Nodup :=
  h.controls ▸ nodup_sensedControls c

/-- A record whose control waits is Queued (R105). -/
theorem MotionLaw.state_of_mem_queue (h : MotionLaw c ok m) {r : MotionRecord} (hr : r ∈ m.records) (hk : r.key ∈ m.queue) :
    r.state = .queued := by
  obtain ⟨q, hq, hkey, hstate⟩ := (h.queued r.key).1 hk
  rwa [← List.inj_on_of_nodup_map h.nodup_keys hq hr hkey]

/-- After an update the queue still holds each Queued control once and nothing else (R105). -/
theorem MotionLaw.update_queue (h : MotionLaw c ok m) (hf : ∀ r, (f r).key = r.key) :
    (m.update f).queue.Nodup
      ∧ ∀ k, k ∈ (m.update f).queue ↔ ∃ r ∈ (m.update f).records, r.key = k ∧ r.state = .queued := by
  refine ⟨List.nodup_append'.2 ⟨h.nodup.filter _, ?_, ?_⟩, fun k => ⟨fun hk => ?_, ?_⟩⟩
  · exact (List.filter_sublist.map _).nodup h.nodup_keys
  · intro k hold hnew
    obtain ⟨r, hr, rfl⟩ := List.mem_map.1 hnew
    obtain ⟨hmem, hstate⟩ := List.mem_filter.1 hr
    simp [MotionRecord.isQueued, h.state_of_mem_queue hmem (List.mem_filter.1 hold).1] at hstate
  · obtain ⟨r, hr, hkey, hstate⟩ := mem_update_queue hk
    exact ⟨f r, List.mem_map_of_mem hr, (hf r).trans hkey, hstate⟩
  · rintro ⟨q, hq, rfl, hstate⟩
    obtain ⟨r, hr, rfl⟩ := List.mem_map.1 hq
    rw [hf r, Motion.update, List.mem_append]
    by_cases hwaits : r.state = .queued
    · refine .inl (List.mem_filter.2 ⟨(h.queued _).2 ⟨r, hr, rfl, hwaits⟩, List.any_eq_true.2 ⟨r, hr, ?_⟩⟩)
      simp [MotionRecord.isQueued, hstate]
    · refine .inr (List.mem_map_of_mem (List.mem_filter.2 ⟨hr, ?_⟩))
      simp [MotionRecord.isQueued, hstate, hwaits]

/-- An update after which e coils are counted. -/
theorem MotionLaw.update_energized {e : Nat} (h : MotionLaw c ok m) (hkey : ∀ r, (f r).key = r.key)
    (hok : ∀ r ∈ m.records, ok r → ok' (f r)) (he : e = (m.records.map f).countP (·.coil.isSome)) (hbudget : e ≤ c.budget) :
    MotionLaw c ok' { m.update f with energized := e } where
  controls := by
    rw [← h.controls]
    exact (List.map_map ..).trans (List.map_congr_left fun r _ => hkey r)
  records := List.forall_mem_map.2 fun r hr => hok r hr (h.records r hr)
  nodup := (h.update_queue hkey).1
  queued := (h.update_queue hkey).2
  energized := he
  budget := hbudget

/-- An update that leaves every coil. -/
theorem MotionLaw.update (h : MotionLaw c ok m) (hf : KeepsCoil f) (hok : ∀ r ∈ m.records, ok r → ok' (f r)) :
    MotionLaw c ok' (m.update f) :=
  h.update_energized (fun r => (hf r).1) hok (h.energized.trans (hf.countP _).symm) h.budget

/-- A change of the records that leaves each coil and state leaves the queue as it stands. -/
theorem MotionLaw.map (h : MotionLaw c ok m) (hf : KeepsCoil f) (hstate : ∀ r, (f r).state = r.state)
    (hok : ∀ r, ok r → ok (f r)) : MotionLaw c ok { m with records := m.records.map f } where
  controls := (hf.controls _).trans h.controls
  records := List.forall_mem_map.2 fun r hr => hok r (h.records r hr)
  nodup := h.nodup
  queued := fun k => by
    rw [h.queued k]
    simp [hstate, (hf _).1]
  energized := h.energized.trans (hf.countP _).symm
  budget := h.budget

end MotionLaw

/-! ### The start of pulses (R107, R108) -/

theorem startable_le (s : State) (energized waiting : Nat) : startable s energized waiting ≤ waiting := by
  unfold startable
  split
  · exact Nat.min_le_left _ _
  · exact Nat.zero_le _

/-- The pulses that start stay within K, under Low1 as without it (R107). -/
theorem startable_budget (s : State) {energized : Nat} (waiting : Nat) (h : energized ≤ s.config.budget) :
    energized + startable s energized waiting ≤ s.config.budget := by
  unfold startable
  split
  · split <;> omega
  · exact h

/-- A pulse may start for any Queued record that ok admits: it has no coil yet, and ok admits the driven record. -/
def Drivable (pulse : Nat) (ok : MotionRecord → Prop) : Prop :=
  ∀ r, ok r → r.state = .queued → r.coil = none ∧ ok (r.drive pulse)

/-- The pulse of a record starts where its control is one of ks (R108). -/
def drivenIn (ks : List (Nat × Nat)) (pulse : Nat) (r : MotionRecord) : MotionRecord := if r.key ∈ ks then r.drive pulse else r

@[simp] theorem drivenIn_key (ks : List (Nat × Nat)) (pulse : Nat) (r : MotionRecord) : (drivenIn ks pulse r).key = r.key := by
  unfold drivenIn
  split <;> rfl

@[simp] theorem drivenIn_coil (ks : List (Nat × Nat)) (pulse : Nat) (r : MotionRecord) :
    (drivenIn ks pulse r).coil.isSome = (r.coil.isSome || decide (r.key ∈ ks)) := by
  unfold drivenIn
  split <;> simp_all [MotionRecord.drive]

theorem drivenIn_queued (ks : List (Nat × Nat)) (pulse : Nat) (r : MotionRecord) :
    (drivenIn ks pulse r).state = .queued ↔ r.state = .queued ∧ r.key ∉ ks := by
  unfold drivenIn
  split <;> simp_all [MotionRecord.drive]

section PulsesStart

variable {c : Configuration} {ok : MotionRecord → Prop} {m : Motion} {pulse n : Nat}

/-- As many coils are energized as controls leave the queue (R107). -/
theorem MotionLaw.countP_drivenIn (h : MotionLaw c ok m) (hdrive : Drivable pulse ok) (hn : n ≤ m.queue.length) :
    m.energized + n = (m.records.map (drivenIn (m.queue.take n) pulse)).countP (·.coil.isSome) := by
  have hnone : ∀ r ∈ m.records, r.coil.isSome = true → decide (r.key ∈ m.queue.take n) = false := fun r hr hsome => by
    refine decide_eq_false fun htaken => ?_
    have hqueued := h.state_of_mem_queue hr (List.mem_of_mem_take htaken)
    simp [(hdrive r (h.records r hr) hqueued).1] at hsome
  have hsub : ∀ k ∈ m.queue.take n, k ∈ m.records.map MotionRecord.key := fun k hk => by
    obtain ⟨r, hr, rfl, -⟩ := (h.queued k).1 (List.mem_of_mem_take hk)
    exact List.mem_map_of_mem hr
  have hnodup : (m.queue.take n).Nodup := (List.take_sublist n _).nodup h.nodup
  calc m.energized + n
      = m.records.countP (·.coil.isSome) + m.records.countP (fun r => decide (r.key ∈ m.queue.take n)) := by
        rw [h.energized, countP_key_mem h.nodup_keys hnodup hsub, List.length_take_of_le hn]
    _ = m.records.countP (fun r => r.coil.isSome || decide (r.key ∈ m.queue.take n)) := (countP_or_of_disjoint hnone).symm
    _ = (m.records.map (drivenIn (m.queue.take n) pulse)).countP (·.coil.isSome) := by
        rw [List.countP_map]
        exact List.countP_congr fun r _ => by simp

/-- The controls left in the queue are those of the records still Queued (R105). -/
theorem MotionLaw.mem_queue_drop (h : MotionLaw c ok m) (k : Nat × Nat) :
    k ∈ m.queue.drop n ↔ ∃ r ∈ m.records.map (drivenIn (m.queue.take n) pulse), r.key = k ∧ r.state = .queued := by
  have hsplit : (m.queue.take n ++ m.queue.drop n).Nodup := by
    rw [List.take_append_drop]
    exact h.nodup
  obtain ⟨-, -, hdisjoint⟩ := List.nodup_append'.1 hsplit
  have hleft : k ∈ m.queue.drop n ↔ k ∈ m.queue ∧ k ∉ m.queue.take n := by
    constructor
    · exact fun hk => ⟨List.mem_of_mem_drop hk, fun htaken => hdisjoint htaken hk⟩
    · rintro ⟨hk, hnot⟩
      rw [← List.take_append_drop n m.queue] at hk
      exact (List.mem_append.1 hk).resolve_left hnot
  rw [hleft, h.queued k]
  simp only [List.mem_map, exists_exists_and_eq_and, drivenIn_key, drivenIn_queued]
  constructor
  · rintro ⟨⟨r, hr, rfl, hstate⟩, hnot⟩
    exact ⟨r, hr, rfl, hstate, hnot⟩
  · rintro ⟨r, hr, rfl, hstate, hnot⟩
    exact ⟨⟨r, hr, rfl, hstate⟩, hnot⟩

/-- The pulses of the n controls at the head of the queue start (R105, R107, R108). -/
theorem MotionLaw.drive_head (h : MotionLaw c ok m) (hdrive : Drivable pulse ok) (hn : n ≤ m.queue.length)
    (hbudget : m.energized + n ≤ c.budget) :
    MotionLaw c ok { records := m.records.map (drivenIn (m.queue.take n) pulse), queue := m.queue.drop n,
                     energized := m.energized + n } where
  controls := by
    rw [← h.controls, List.map_map]
    exact List.map_congr_left fun r _ => drivenIn_key _ _ r
  records := List.forall_mem_map.2 fun r hr => by
    unfold drivenIn
    split
    · exact (hdrive r (h.records r hr) (h.state_of_mem_queue hr (List.mem_of_mem_take ‹_›))).2
    · exact h.records r hr
  nodup := (List.drop_sublist n _).nodup h.nodup
  queued := h.mem_queue_drop
  energized := h.countP_drivenIn hdrive hn
  budget := hbudget

end PulsesStart

/-- The start of pulses keeps the law (R105, R107, R108). -/
theorem MotionLaw.pulsesStarted {s : State} {ok : MotionRecord → Prop} {m : Motion} (h : MotionLaw s.config ok m)
    (hdrive : Drivable s.config.pulse ok) : MotionLaw s.config ok (judged s m) :=
  h.drive_head hdrive (startable_le s _ _) (startable_budget s _ h.budget)

theorem drivable_soundIn (pulse : Nat) (st : Station) : Drivable pulse (soundIn st) := by
  rintro r ⟨hr, haside⟩ hstate
  simp only [recordOk, hstate] at hr
  obtain ⟨hretry, -, hcoil⟩ := hr
  refine ⟨hcoil, ⟨hretry, rfl⟩, ?_⟩
  simpa [MotionRecord.drive, hstate] using haside

theorem judgePulses_motionOk {s : State} (h : motionOk s) : motionOk (judgePulses s) := by
  rw [judgePulses_judged]
  exact motionOk_iff.2 ((motionOk_iff.1 h).pulsesStarted (drivable_soundIn _ _))

/-- Every record passes through f, and pulses start (R105 to R107). -/
theorem moveRecords_law {s : State} {ok ok' : MotionRecord → Prop} {f : MotionRecord → MotionRecord}
    (h : MotionLaw s.config ok s.motion) (hf : KeepsCoil f) (hok : ∀ r ∈ s.motion.records, ok r → ok' (f r))
    (hdrive : Drivable s.config.pulse ok') : MotionLaw s.config ok' (moveRecords f s).motion := by
  rw [moveRecords_judged]
  exact (h.update hf hok).pulsesStarted hdrive

theorem moveRecords_motionOk {s : State} {ok : MotionRecord → Prop} {f : MotionRecord → MotionRecord}
    (h : MotionLaw s.config ok s.motion) (hf : KeepsCoil f)
    (hok : ∀ r ∈ s.motion.records, ok r → soundIn s.station (f r)) : motionOk (moveRecords f s) := by
  refine motionOk_iff.2 ?_
  have hlaw := moveRecords_law h hf hok (drivable_soundIn _ _)
  simpa using hlaw

/-! ### What each move makes of a sound record (R106, R109 to R117) -/

section SoundRecords

variable {st : Station} {r : MotionRecord}

/-- The coil and the retry that a record's state allows, whether or not it agrees with its target (R103, R107, R110). -/
def coilOk (r : MotionRecord) : Prop :=
  r.retry ≤ Config.maxRetry
    ∧ match r.state with
      | .aligned | .queued | .settling | .stuck => r.coil = none
      | .driving => r.coil.isSome = true
      | .unaligned => True

theorem coilOk_of_recordOk (h : recordOk r) : coilOk r := by
  obtain ⟨hretry, hr⟩ := h
  refine ⟨hretry, ?_⟩
  cases hs : r.state <;> simp_all

/-- A record whose sensed field or target has just changed is sound once R106 has judged it. -/
theorem settleState_sound (h : coilOk r) (haside : r.state = .unaligned ↔ st ≠ .awake) : soundIn st r.settleState := by
  obtain ⟨hretry, hcoil⟩ := h
  unfold MotionRecord.settleState
  cases hs : r.state <;> simp only [hs] at hcoil haside ⊢
  case aligned | queued | stuck =>
    split <;> simp_all [soundIn, recordOk]
  case driving | settling | unaligned => simp_all [soundIn, recordOk]

theorem setTarget_sound (v : Bool) (h : soundIn st r) : soundIn st (r.setTarget v) := by
  obtain ⟨hr, haside⟩ := h
  unfold MotionRecord.setTarget
  split
  · exact ⟨hr, haside⟩
  · obtain ⟨-, hcoil⟩ := coilOk_of_recordOk hr
    exact settleState_sound ⟨Nat.zero_le _, hcoil⟩ haside

/-- A sense change of a record that is not Aligned (R112). -/
theorem setSensed_sound (v : Bool) (h : soundIn st r) (hstate : r.state ≠ .aligned) : soundIn st (r.setSensed v) := by
  obtain ⟨hr, haside⟩ := h
  have hsettled : r.setSensed v = MotionRecord.settleState { r with sensed := v } := by
    unfold MotionRecord.setSensed
    split
    · exact absurd ‹_› hstate
    · rfl
  rw [hsettled]
  exact settleState_sound (r := { r with sensed := v }) (show coilOk r from coilOk_of_recordOk hr) haside

/-- The judgement at the settle end (R110). -/
theorem judge_sound (h : soundIn st r) (hstate : r.state = .settling) : soundIn st r.judge := by
  obtain ⟨⟨hretry, hr⟩, haside⟩ := h
  simp only [hstate] at hr haside
  unfold MotionRecord.judge
  split
  · simp_all [soundIn, recordOk]
  · split
    · simp_all [soundIn, recordOk]
    · simp_all [soundIn, recordOk]

/-- A Stuck record that is queued again (R115). -/
theorem requeue_sound (h : soundIn st r) : soundIn st r.requeue := by
  unfold MotionRecord.requeue
  split
  · obtain ⟨⟨-, hr⟩, haside⟩ := h
    simp_all [soundIn, recordOk]
  · exact h

/-- The end of a pulse (R109). -/
theorem endPulse_sound (settle : Nat) (h : soundIn st r) : soundIn st (r.endPulse settle) := by
  obtain ⟨⟨hretry, hr⟩, haside⟩ := h
  unfold MotionRecord.endPulse
  split
  · simp_all [soundIn, recordOk]
  · refine ⟨⟨hretry, ?_⟩, haside⟩
    cases hs : r.state <;> simp_all

/-- A record that stands aside, outside Awake (R116). -/
theorem standAside_sound (r : MotionRecord) (hst : st ≠ .awake) : soundIn st r.standAside :=
  ⟨⟨Nat.zero_le _, trivial⟩, by simp [MotionRecord.standAside, hst]⟩

/-- A record judged afresh at the entry into Awake (R117). -/
theorem wake_sound (v : Bool) (r : MotionRecord) : soundIn .awake (r.wake v) := by
  unfold MotionRecord.wake
  cases hcoil : r.coil with
  | some on => simp [soundIn, recordOk]
  | none => by_cases hv : v = r.target <;> simp [soundIn, recordOk, hv]

end SoundRecords

theorem settleState_keepsCoil : KeepsCoil MotionRecord.settleState := fun r => by
  unfold MotionRecord.settleState
  repeat' split
  all_goals exact ⟨rfl, rfl⟩

theorem setSensed_keepsCoil (v : Bool) : KeepsCoil (MotionRecord.setSensed v) := fun r => by
  unfold MotionRecord.setSensed
  split
  · exact ⟨rfl, rfl⟩
  · exact settleState_keepsCoil { r with sensed := v }

theorem setTarget_keepsCoil (v : MotionRecord → Bool) : KeepsCoil fun r => r.setTarget (v r) := fun r => by
  obtain ⟨hd, hi, -, -, hcoil⟩ := setTarget_fields r (v r)
  exact ⟨Prod.ext hd hi, hcoil⟩

theorem judge_keepsCoil : KeepsCoil MotionRecord.judge := fun r => by
  unfold MotionRecord.judge
  repeat' split
  all_goals exact ⟨rfl, rfl⟩

theorem requeue_keepsCoil : KeepsCoil MotionRecord.requeue := fun r => by
  unfold MotionRecord.requeue
  split <;> exact ⟨rfl, rfl⟩

theorem wake_keepsCoil (v : MotionRecord → Bool) : KeepsCoil fun r => r.wake (v r) := fun _ => ⟨rfl, rfl⟩

/-! ### Local changes and sense changes (R16, R106, R112, R113) -/

section MotionKept

variable {s t u : State}

theorem motionOk_ite {p : Prop} [Decidable p] (h : motionOk s) (ht : motionOk s → motionOk t) : motionOk (if p then t else s) := by
  split
  · exact ht h
  · exact h

/-- The targets of the changed divisions are set (R16, R106). -/
theorem imageChanged_motionOk (ds : List Nat) (h : motionOk s) : motionOk (imageChanged ds s) := by
  refine moveRecords_motionOk (motionOk_iff.1 h) ((setTarget_keepsCoil _).ite (p := fun r => ds.contains r.d = true)) ?_
  intro r _ hr
  split
  · exact setTarget_sound _ hr
  · exact hr

theorem localChange_motionOk (cs : List (Nat × StopSet)) (h : motionOk s) : motionOk (localChange cs s) := by
  unfold localChange
  split
  · exact h
  · exact imageChanged_motionOk _ (motionOk_of_same h (by simp))

theorem mergeRegistration_motionOk (d : Nat) (a : Stamp) (x : StopSet) (h : motionOk s) : motionOk (mergeRegistration d a x s) := by
  unfold mergeRegistration
  split
  · exact imageChanged_motionOk _ (motionOk_of_same h (by simp))
  · exact h

/-- Between the sense change of an Aligned record and the local change of its hand motion: the record of control (d, i) is Aligned,
and its target may still differ from the sensed value v; the others are sound (R113). -/
def handMoved (d i : Nat) (v : Bool) (st : Station) (r : MotionRecord) : Prop :=
  if r.key = (d, i) then r.state = .aligned ∧ r.sensed = v ∧ r.coil = none ∧ r.retry ≤ Config.maxRetry ∧ st = .awake
  else soundIn st r

theorem drivable_handMoved (pulse d i : Nat) (v : Bool) (st : Station) : Drivable pulse (handMoved d i v st) := by
  intro r hr hstate
  unfold handMoved at hr ⊢
  split at hr
  · rw [hstate] at hr
    cases hr.1
  · rename_i hkey
    rw [if_neg (show (r.drive pulse).key ≠ (d, i) from hkey)]
    exact drivable_soundIn pulse st r hr hstate

/-- The sense change of an Aligned record (R113). -/
theorem setSensed_handMoved {st : Station} {r : MotionRecord} {d i : Nat} (v : Bool) (h : soundIn st r)
    (haligned : r.key = (d, i) → r.state = .aligned) : handMoved d i v st (onRecord d i (MotionRecord.setSensed v) r) := by
  obtain ⟨⟨hretry, hr⟩, haside⟩ := h
  unfold handMoved
  rw [onRecord_key (setSensed_key v)]
  by_cases hkey : r.key = (d, i)
  · have hstate := haligned hkey
    simp only [hstate] at hr haside
    have hawake : st = .awake := by simpa using haside
    have hmoved : r.setSensed v = { r with sensed := v } := by simp [MotionRecord.setSensed, hstate]
    rw [if_pos hkey, onRecord, if_pos (Prod.mk.inj hkey), hmoved]
    exact ⟨hstate, rfl, hr.2, hretry, hawake⟩
  · rw [if_neg hkey, onRecord, if_neg fun hc => hkey (Prod.ext hc.1 hc.2)]
    exact ⟨⟨hretry, hr⟩, haside⟩

/-- The local change of the hand motion brings the record's target to its sensed value (R106, R113). -/
theorem setTarget_handMoved {st : Station} {r : MotionRecord} {d i : Nat} {v : Bool} (w : Bool) (h : handMoved d i v st r)
    (hw : r.key = (d, i) → w = v) : soundIn st (r.setTarget w) := by
  unfold handMoved at h
  split at h
  · obtain ⟨hstate, hsensed, hcoil, hretry, hawake⟩ := h
    rw [hw ‹_›]
    unfold MotionRecord.setTarget
    split
    · simp_all [soundIn, recordOk]
    · refine settleState_sound ⟨Nat.zero_le _, ?_⟩ ?_
      · simp [hstate, hcoil]
      · simp [hstate, hawake]
  · exact setTarget_sound w h

/-- A division of the image after its change (R5). -/
theorem changeDivision_drawn {d : Nat} (x : StopSet) (hd : d < s.image.length) :
    (changeDivision s (d, x)).drawn d = s.config.restrict d x := by
  have himage : (changeDivision s (d, x)).image[d]? =
      some { drawn := s.config.restrict d x, stamp := successor s.link.number (s.division d).stamp } := by
    simp [changeDivision, hd]
  rw [drawn_getD, himage]
  rfl

/-- A hand motion makes the law whole again (R113). -/
theorem handMotion_motionOk {d i : Nat} {v : Bool} (h : MotionLaw s.config (handMoved d i v s.station) s.motion)
    (hd : d < s.image.length) (hi : i < s.config.controlsOf d) (hcontrols : s.config.controlsOf d ≤ 48) :
    motionOk (handMotion d i v s) := by
  set x := if v then withStop (s.drawn d) i else withoutStop (s.drawn d) i with hx
  set w := changeDivision s (d, x) with hw
  have hbit : (w.drawn d).getLsbD i = v := by
    rw [hw, changeDivision_drawn x hd, hx]
    exact getLsbD_handMotion (s.drawn d) v hi hcontrols
  have hsame : w.motion = s.motion ∧ w.config = s.config ∧ w.station = s.station := by simp [hw, changeDivision]
  obtain ⟨hmotion, hconfig, hstation⟩ := hsame
  have hlaw : MotionLaw w.config (handMoved d i v w.station) w.motion := by rwa [hmotion, hconfig, hstation]
  have hchange : handMotion d i v s = imageChanged [d] w := rfl
  rw [hchange]
  refine moveRecords_motionOk hlaw ((setTarget_keepsCoil _).ite (p := fun r => [d].contains r.d = true)) ?_
  intro r _ hr
  split
  · refine setTarget_handMoved _ hr fun hkey => ?_
    obtain ⟨hrd, hri⟩ := Prod.mk.inj hkey
    rw [hrd, hri, hbit]
  · rename_i hother
    have hkey : r.key ≠ (d, i) := fun hkey => hother (by simp [(Prod.mk.inj hkey).1])
    simpa only [handMoved, if_neg hkey] using hr

/-- A stop-sense change (R112, R113). -/
theorem senseChange_motionOk (d i : Nat) (v : Bool) (hc : configured s) (hi : imageOk s) (h : motionOk s) :
    motionOk (senseChange d i v s) := by
  have hcoil := (setSensed_keepsCoil v).onRecord d i
  have hplain : (∀ r ∈ s.motion.records, r.key = (d, i) → r.state ≠ .aligned) →
      motionOk (moveRecords (onRecord d i (MotionRecord.setSensed v)) s) := fun hnot => by
    refine moveRecords_motionOk (motionOk_iff.1 h) hcoil fun r hr hsound => ?_
    unfold onRecord
    split
    · exact setSensed_sound v hsound (hnot r hr (Prod.ext (‹_ ∧ _›).1 (‹_ ∧ _›).2))
    · exact hsound
  unfold senseChange
  dsimp only
  split
  · rename_i r hfind
    have hself : ∀ q ∈ s.motion.records, q.key = (d, i) → q = r := fun q hq => eq_of_key (nodup_keys h) hfind hq
    split
    · rename_i haligned
      obtain ⟨hmem, hkey⟩ := find_mem hfind
      have hcontrol : (d, i) ∈ s.config.sensedControls := by
        rw [← h.1, ← hkey]
        exact List.mem_map_of_mem hmem
      obtain ⟨hd, hindex⟩ := mem_sensedControls hcontrol
      have hlaw := moveRecords_law (motionOk_iff.1 h) hcoil
        (fun q hq hsound => setSensed_handMoved v hsound fun hk => hself q hq hk ▸ haligned)
        (drivable_handMoved s.config.pulse d i v s.station)
      have hlength : (moveRecords (onRecord d i (MotionRecord.setSensed v)) s).image.length = s.divisionCount := by simp [hi.1]
      refine handMotion_motionOk (by simpa using hlaw) ?_ (by simpa using hindex) (by simpa using controlsOf_le hc d)
      rw [hlength]
      exact hd
    · rename_i hstate
      exact hplain fun q hq hk => hself q hq hk ▸ hstate
  · rename_i hnone
    refine hplain fun q hq hk _ => ?_
    have hmiss := List.find?_eq_none.1 hnone q hq
    simp [Prod.mk.inj hk] at hmiss

/-! ### Presses that change the image (R24 to R30, R70 to R73) -/

theorem recallPiston_motionOk (p : Piston) (h : motionOk s) : motionOk (recallPiston p s) := by
  unfold recallPiston
  split
  · exact localChange_motionOk _ (motionOk_of_same h (by simp))
  · exact motionOk_of_same h (by simp)

theorem cancelAll_motionOk (h : motionOk s) : motionOk (cancelAll s) :=
  motionOk_of_same (localChange_motionOk ((List.range s.divisionCount).map fun d => (d, 0#48)) h) (by simp [cancelAll])

theorem localEvent_motionOk (h : motionOk s) : motionOk (localEvent s) := motionOk_of_same h (by simp)

theorem pressPiston_motionOk (p : Piston) (r : Record) (h : motionOk s) :
    motionOk (if s.setIsHeld then capturePiston p r (localEvent s) else recallPiston p (localEvent s)) := by
  split
  · exact motionOk_of_same h (by simp)
  · exact recallPiston_motionOk p (localEvent_motionOk h)

theorem pressDivisionCancel_motionOk (d : Nat) (h : motionOk s) : motionOk (pressDivisionCancel d s) := by
  unfold pressDivisionCancel
  dsimp only
  repeat' split
  · exact motionOk_of_same h (by simp)
  · exact localChange_motionOk _ (motionOk_of_same h (by simp))
  · exact h

/-- A step that is performed is a recall or a cancel (R73). -/
theorem performStep_motionOk (h : motionOk s) : motionOk (performStep s) := by
  unfold performStep
  repeat' split
  · rename_i x _ _
    cases x with
    | general | divisional => exact recallPiston_motionOk _ (localEvent_motionOk h)
    | generalCancel => exact cancelAll_motionOk (localEvent_motionOk h)
  all_goals exact h

theorem setCursor_performStep_motionOk (n : Nat) (h : motionOk s) : motionOk (performStep (setCursor n s)) :=
  performStep_motionOk (motionOk_of_same h (by simp))

theorem pressNext_motionOk (h : motionOk s) : motionOk (pressNext s) := by
  unfold pressNext stepNext
  repeat' split
  · exact motionOk_of_same h (by simp)
  · exact setCursor_performStep_motionOk _ h
  · exact motionOk_of_same h (by simp)
  · exact h

theorem pressPrevious_motionOk (h : motionOk s) : motionOk (pressPrevious s) := by
  unfold pressPrevious stepPrevious
  repeat' split
  · exact motionOk_of_same h (by simp)
  · exact setCursor_performStep_motionOk _ h
  all_goals exact h

/-! ### Changes of the station state (R102, R116, R117) -/

/-- A station out of Awake whose records have stood aside (R116). -/
theorem motionOk_of_standAside (h : motionOk s)
    (hmotion : t.motion = { s.motion with records := s.motion.records.map MotionRecord.standAside, queue := [] })
    (hcfg : t.cfg = s.cfg) (hst : t.station ≠ .awake) : motionOk t := by
  have hcoil : KeepsCoil MotionRecord.standAside := fun _ => ⟨rfl, rfl⟩
  have hlaw := motionOk_iff.1 h
  rw [motionOk_iff, hmotion, State.config, hcfg]
  refine ⟨(hcoil.controls _).trans hlaw.controls, List.forall_mem_map.2 fun r _ => standAside_sound r hst, List.nodup_nil,
    fun k => ?_, hlaw.energized.trans (hcoil.countP _).symm, hlaw.budget⟩
  simp [MotionRecord.standAside]

theorem enterDormant_motionOk (h : motionOk s) : motionOk (enterDormant s) := by
  obtain ⟨hentered, -⟩ := enterDormant_entered s
  refine motionOk_of_standAside h ?_ (by simp) (by simp [enterDormant])
  rw [standAside_asideRecord]
  exact congrArg State.motion hentered

theorem enterRestarting_motionOk (cause : StartCause) (h : motionOk s) : motionOk (enterRestarting cause s) := by
  by_cases hnot : s.station = .off ∨ s.station = .restarting
  · rwa [enterRestarting, if_pos hnot]
  · rw [enterRestarting_entered s cause (fun hs => hnot (.inl hs)) fun hs => hnot (.inr hs)]
    refine motionOk_of_standAside h ?_ rfl (by simp [restartingEntered])
    rw [standAside_asideRecord]
    rfl

theorem enterAwake_motionOk (h : motionOk s) : motionOk (enterAwake s) := by
  have hlaw : MotionLaw (s.setStation .awake).config (soundIn s.station) (s.setStation .awake).motion := motionOk_iff.1 h
  have hwoken : motionOk (wakeRecords (s.setStation .awake)) :=
    moveRecords_motionOk hlaw (wake_keepsCoil _) fun r _ _ => wake_sound _ r
  exact motionOk_of_same hwoken (by simp [enterAwake])

theorem judgeConsole_motionOk (h : motionOk s) : motionOk (judgeConsole s) := by
  unfold judgeConsole
  repeat' split
  · exact h
  · exact enterDormant_motionOk h
  · exact enterAwake_motionOk (motionOk_of_same h (by simp))
  all_goals exact h

/-! ### The fault acknowledge and changes of lines (R115, R125 to R128) -/

theorem acknowledge_motionOk (h : motionOk s) : motionOk (acknowledge s) := by
  unfold acknowledge
  repeat' split
  · have hmoved : motionOk (moveRecords MotionRecord.requeue s) :=
      moveRecords_motionOk (motionOk_iff.1 h) requeue_keepsCoil fun _ _ => requeue_sound
    exact motionOk_of_same hmoved (by simp)
  · exact motionOk_of_same h (by simp)
  · exact h

theorem handPress_motionOk (f : LineFunction) (hc : configured s) (hi : imageOk s) (h : motionOk s) :
    motionOk (handPress f s) := by
  cases f with
  | stopSense d i => exact senseChange_motionOk d i true hc hi h
  | generalPiston | divisionalPiston => exact motionOk_ite h (pressPiston_motionOk _ _)
  | generalCancel => exact motionOk_ite h fun h => cancelAll_motionOk (localEvent_motionOk h)
  | divisionCancel d => exact pressDivisionCancel_motionOk d h
  | sequencerNext => exact pressNext_motionOk h
  | sequencerPrevious => exact pressPrevious_motionOk h
  | consoleKey => exact judgeConsole_motionOk h
  | faultAcknowledge => exact acknowledge_motionOk h
  | set | levelUp | levelDown | tutti | crescendoProgram | crescendoSet | protect | encoderIndex =>
    exact motionOk_of_same h (by simp [handPress])
  | unused | protectOverride | encoderA | encoderB => exact h

theorem handRelease_motionOk (f : LineFunction) (hc : configured s) (hi : imageOk s) (h : motionOk s) :
    motionOk (handRelease f s) := by
  cases f with
  | stopSense d i => exact senseChange_motionOk d i false hc hi h
  | consoleKey => exact judgeConsole_motionOk h
  | _ => exact motionOk_of_same h (by simp [handRelease])

theorem handChange_motionOk (f : LineFunction) (v : Bool) (hc : configured s) (hi : imageOk s) (h : motionOk s) :
    motionOk (handChange f v s) := by
  unfold handChange
  repeat' split
  · exact handPress_motionOk f hc hi h
  · exact handRelease_motionOk f hc hi h
  · exact h

theorem lineEvent_motionOk (carries : LineFunction → Bool) (n : Nat) (v : Bool) (hc : configured s) (hi : imageOk s)
    (h : motionOk s) : motionOk (lineEvent carries n v s) := by
  unfold lineEvent
  split
  · exact handChange_motionOk (s := qualify n v s) _ v hc hi h
  · exact h

/-- The changes of a group's sample, one after another; each finds configuration and image as sound as the one before (R125). -/
theorem handLines_motionOk (ns : List Nat) (hc : configured s) (hi : imageOk s) (h : motionOk s) :
    motionOk (ns.foldl handLine s) := by
  induction ns generalizing s with
  | nil => exact h
  | cons n ns ih =>
    have hstep : ImageStep s (handLine s n) := .inl ((handChange_continues _ _ s).advances (by omega))
    exact ih (hstep.configured hc) (hstep.imageOk hi) (handChange_motionOk _ _ hc hi h)

theorem groupSample_motionOk (m : Nat) (contacts : Byte) (hc : configured s) (hi : imageOk s) (h : motionOk s) :
    motionOk
      (if s.cfg.isSome ∧ m < 48 then
        let t := (s.changedLines m contacts).foldl handLine (sampleLines m contacts s)
        if s.groupHasTrack m then handPair t else t
      else s) := by
  split
  · have hlines := handLines_motionOk (s := sampleLines m contacts s) (s.changedLines m contacts) hc hi h
    dsimp only
    split
    · exact motionOk_of_same hlines (by simp)
    · exact hlines
  · exact h

/-! ### The supply, pulses and settle windows (R109, R110, R114, R118) -/

theorem releaseLow1_motionOk (h : motionOk s) : motionOk (releaseLow1 s) := by
  unfold releaseLow1
  split
  · exact judgePulses_motionOk (motionOk_of_same h (by simp))
  · exact h

theorem releaseLow2_motionOk (h : motionOk s) : motionOk (releaseLow2 s) := by
  unfold releaseLow2
  split
  · have hjudged : motionOk (judgePulses (s.setSupply { s.supply with low2 := false })) :=
      judgePulses_motionOk (motionOk_of_same h (by simp))
    exact motionOk_of_same hjudged (by simp)
  · exact h

theorem compareSupply_motionOk (mv : Nat) (h : motionOk s) : motionOk (compareSupply mv s) := by
  have hlow1 : ∀ {u : State}, motionOk u → motionOk (enterLow1 u) := fun hu => motionOk_of_same hu (by simp)
  have hlow2 : ∀ {u : State}, motionOk u → motionOk (enterLow2 u) := fun hu => motionOk_of_same hu (by simp)
  exact motionOk_ite (motionOk_ite (motionOk_ite (motionOk_ite h hlow1) hlow2) releaseLow2_motionOk) releaseLow1_motionOk

theorem supplyEvent_motionOk (crossed : Bool) (mv : Nat) (h : motionOk s) : motionOk (supplyEvent crossed mv s) :=
  motionOk_ite h (compareSupply_motionOk mv)

/-- The end of a pulse releases one coil (R109). -/
theorem countP_endPulse {d i : Nat} {r : MotionRecord} (settle : Nat) (h : motionOk s) (hfind : s.motion.find d i = some r)
    (hcoil : r.coil.isSome = true) :
    s.motion.energized - 1 = (s.motion.records.map (onRecord d i (MotionRecord.endPulse settle))).countP (·.coil.isSome) := by
  obtain ⟨hmem, hkey⟩ := find_mem hfind
  have hlaw := motionOk_iff.1 h
  set g := onRecord d i (MotionRecord.endPulse settle) with hg
  have hreleased : ∀ q : MotionRecord, q.key = (d, i) → (g q).coil.isSome = false := fun q hq => by
    rw [hg, onRecord, if_pos (Prod.mk.inj hq), MotionRecord.endPulse]
    split <;> rfl
  have hother : ∀ q : MotionRecord, q.key ≠ (d, i) → g q = q := fun q hq => by
    rw [hg, onRecord, if_neg fun hc => hq (Prod.ext hc.1 hc.2)]
  have hsplit : ∀ q ∈ s.motion.records, q.coil.isSome = ((g q).coil.isSome || decide (q.key ∈ [(d, i)])) := fun q hq => by
    by_cases hk : q.key = (d, i)
    · rw [eq_of_key hlaw.nodup_keys hfind hq hk, hcoil]
      simp [hkey]
    · rw [hother q hk]
      simp [hk]
  have hdisjoint : ∀ q ∈ s.motion.records, (g q).coil.isSome = true → decide (q.key ∈ [(d, i)]) = false := fun q _ hq => by
    by_cases hk : q.key = (d, i)
    · rw [hreleased q hk] at hq
      cases hq
    · simp [hk]
  have hone : s.motion.records.countP (fun q => decide (q.key ∈ [(d, i)])) = 1 :=
    countP_key_mem hlaw.nodup_keys (List.nodup_singleton _) fun k hk => by
      rw [List.mem_singleton.1 hk, ← hkey]
      exact List.mem_map_of_mem hmem
  have hcount : s.motion.energized = (s.motion.records.map g).countP (·.coil.isSome) + 1 := by
    rw [hlaw.energized, ← hone, List.countP_map]
    exact (List.countP_congr fun q hq => by simp [hsplit q hq]).trans (countP_or_of_disjoint hdisjoint)
  omega

theorem pulseEnd_motionOk (d i : Nat) (h : motionOk s) (ht : exec (.pulseEnd d i) s = .next t) : motionOk t := by
  simp only [exec, execPulseEnd] at ht
  repeat' split at ht
  all_goals obtain rfl := Host.Outcome.next.inj ht
  · rename_i r hfind hcoil
    have hlaw := motionOk_iff.1 h
    have hkey := onRecord_key (d := d) (i := i) (f := MotionRecord.endPulse s.config.settle) fun q => (endPulse_leavesCoil _ q).1
    have hended := hlaw.update_energized (ok' := soundIn s.station) hkey
      (fun q _ hq => by
        unfold onRecord
        split
        · exact endPulse_sound _ hq
        · exact hq)
      (countP_endPulse s.config.settle h hfind hcoil) ((Nat.sub_le _ _).trans hlaw.budget)
    have hreleased : motionOk (s.setMotion { s.motion.update (onRecord d i (MotionRecord.endPulse s.config.settle)) with
        energized := s.motion.energized - 1 }) := motionOk_iff.2 hended
    exact motionOk_of_same (judgePulses_motionOk hreleased) (by simp; rfl)
  · exact h
  · exact h

theorem settleEnd_motionOk (d i : Nat) (h : motionOk s) (ht : exec (.settleEnd d i) s = .next t) : motionOk t := by
  simp only [exec, execSettleEnd] at ht
  repeat' split at ht
  all_goals obtain rfl := Host.Outcome.next.inj ht
  · rename_i r hfind hstate
    have hmoved : motionOk (moveRecords (onRecord d i MotionRecord.judge) s) :=
      moveRecords_motionOk (motionOk_iff.1 h) (judge_keepsCoil.onRecord d i) fun q hq hsound => by
        unfold onRecord
        split
        · have hself : q = r := eq_of_key (nodup_keys h) hfind hq (Prod.ext (‹_ ∧ _›).1 (‹_ ∧ _›).2)
          exact judge_sound hsound (hself ▸ hstate)
        · exact hsound
    exact motionOk_of_same hmoved (by simp)
  · exact h
  · exact h

/-! ### Start, Joining and the link (R102, R144, R154, R166) -/

/-- A station as a start or a loss of power leaves it has no record (R165, R166). -/
theorem motionOk_of_reset (h : t.motion = State.reset.motion ∧ t.cfg = none ∧ t.station ≠ .awake) : motionOk t := by
  obtain ⟨hmotion, hcfg, hstation⟩ := h
  obtain ⟨-, -, -, -, -, -, -, hreset, -⟩ := resetIsSound
  exact motionOk_congr hreset hmotion hcfg (by simp [hstation, State.reset])

/-- The records made at the entry into Joining stand aside, without a coil (R102). -/
theorem makeRecords_motionOk (hs : s.station ≠ .awake) : motionOk (makeRecords s) := by
  refine motionOk_iff.2 ⟨?_, ?_, List.nodup_nil, fun k => ?_, ?_, Nat.zero_le _⟩
  · simp only [makeRecords, State.setMotion_motion, List.map_map]
    exact List.map_id _
  · refine List.forall_mem_map.2 fun k _ => ⟨⟨Nat.zero_le _, trivial⟩, ?_⟩
    simpa using hs
  · simp [makeRecords]
  · simp [makeRecords, List.countP_map, Function.comp_def]

theorem enterJoining_motionOk (s : State) : motionOk (enterJoining s) := by
  set u := handHeartbeat (noticesAtStartEnd ((s.setStation .joining).setStart { s.start with joinMs := 0, heartbeatMs := 0 }))
    with hu
  have hmade : motionOk (makeRecords u) := makeRecords_motionOk (by simp [hu])
  exact motionOk_of_same hmade (by simp [enterJoining, hu])

/-- Where Start is left without a configuration the station has no record, and Joining makes them anew (R102, R166). -/
theorem leaveStart_motionOk (strap : Bool) (contacts : BitVec 384) (hs : s.station = .start) (h : motionOk s) :
    motionOk (leaveStart strap contacts s) := by
  have hunplayed : ∀ {u : State} {st : Station}, st ≠ .awake → u.motion = s.motion → u.cfg = s.cfg →
      motionOk (enterUnplayed st u) := fun hst hmotion hcfg =>
    motionOk_congr h (by simp [hmotion]) (by simp [hcfg]) (by simp [enterUnplayed, hst, hs])
  unfold leaveStart
  dsimp only
  repeat' split
  · exact hunplayed (by simp) (by simp) (by simp)
  · exact enterJoining_motionOk _
  · exact hunplayed (by simp) (by simp) (by simp)

theorem joinEnd_motionOk (h : motionOk s) :
    motionOk
      (if s.station = .joining then
        let t := applyPolicy (s.setStart { s.start with joinMs := Config.joinMs })
        if t.consoleOn then enterAwake t else enterDormant t
      else s) := by
  refine motionOk_ite h fun h => ?_
  have hpolicy : motionOk (applyPolicy (s.setStart { s.start with joinMs := Config.joinMs })) :=
    localChange_motionOk _ (motionOk_of_same h (by simp))
  dsimp only
  split
  · exact enterAwake_motionOk hpolicy
  · exact enterDormant_motionOk hpolicy

theorem dispatch_motionOk (origin : Nat) (f : Frame) (h : motionOk s) : motionOk (dispatch origin f s) := by
  cases f with
  | registrationChange d a x => exact mergeRegistration_motionOk d a x h
  | registrationRefresh d a x => exact mergeRegistration_motionOk d a x h
  | restart => exact motionOk_ite h (enterRestarting_motionOk _)
  | configurationRead | configurationWrite | slotWrite | memoryClear =>
    exact motionOk_ite h fun h => motionOk_of_same h (by simp)
  | _ => exact motionOk_of_same h (by simp [dispatch])

theorem receive_motionOk (origin : Nat) (f : Frame) (h : motionOk s) : motionOk (receive origin f s) := by
  have hended : motionOk (frameEnded s) := motionOk_of_same h ⟨rfl, rfl, rfl⟩
  unfold receive
  dsimp only
  repeat' split
  · exact motionOk_of_same hended (by simp)
  · exact dispatch_motionOk origin f hended
  · exact hended
  · exact h

/-! ### What every step keeps -/

theorem tick_motionOk (h : motionOk s) : motionOk (tick s) := by
  unfold tick
  split
  · exact h
  · exact motionOk_iff.2 ((motionOk_iff.1 h).map (f := MotionRecord.tick) (fun _ => ⟨rfl, rfl⟩) (fun _ => rfl) fun _ hr => hr)

/-- Every command of a configured station with a sound image keeps the motion law. -/
theorem exec_motionOk {c : Instr} (hc : configured s) (hi : imageOk s) (hm : motionOk s) (h : exec c s = .next t) : motionOk t := by
  have next : ∀ {u : State}, exec c s = .next u → motionOk u → motionOk t := fun hu hP =>
    Host.Outcome.next.inj (hu.symm.trans h) ▸ hP
  cases c with
  | powerOn mv => exact next rfl (motionOk_ite hm fun _ => motionOk_of_reset ⟨rfl, rfl, by simp [startState, State.reset]⟩)
  | lossOfPower torn =>
    refine next rfl ?_
    split
    · exact hm
    · exact motionOk_of_reset ⟨rfl, rfl, by simp⟩
  | startAfterRestarting =>
    exact next rfl (motionOk_ite hm fun _ => motionOk_of_reset ⟨rfl, rfl, by simp [startState, State.reset]⟩)
  | configurationCheck contacts =>
    refine next rfl ?_
    repeat' split
    · exact leaveStart_motionOk _ contacts ‹_› hm
    all_goals exact hm
  | restartLinePress =>
    refine next rfl ?_
    split
    · exact hm
    · exact enterRestarting_motionOk _ (motionOk_of_same hm (by simp))
  | fixedLineSample restart strap =>
    refine next rfl ?_
    dsimp only
    repeat' split
    · exact hm
    · exact enterRestarting_motionOk _ (motionOk_of_same hm (by simp))
    · exact motionOk_of_same hm (by simp)
  | stopSenseChange | generalPiston | divisionalPiston | setPress | setRelease | generalCancel | divisionCancelPress
  | divisionCancelRelease | levelUp | levelDown | protect | sequencerNext | sequencerPrevious | tutti | crescendoProgram
  | crescendoSet | lineRelease | consoleKey | faultAcknowledge => exact next rfl (lineEvent_motionOk _ _ _ hc hi hm)
  | indexEdge =>
    refine next rfl ?_
    split
    · exact lineEvent_motionOk _ _ _ hc hi hm
    · exact hm
  | groupSample m contacts => exact next rfl (groupSample_motionOk m contacts hc hi hm)
  | low1Entry | low1Release | low2Entry | low2Release => exact next rfl (supplyEvent_motionOk _ _ hm)
  | pulseEnd d i => exact pulseEnd_motionOk d i hm h
  | settleEnd d i => exact settleEnd_motionOk d i hm h
  | writeReadback | retentionRefreshWrite | peerSilent | peerAbsent =>
    simp only [exec, execWriteReadback, execRetentionRefreshWrite, execPeerSilent, execPeerAbsent] at h
    repeat' split at h
    all_goals cases h
    all_goals exact motionOk_of_same hm (by simp)
  | heartbeatPeriod =>
    refine next rfl (motionOk_ite hm fun hm => ?_)
    dsimp only
    split
    all_goals exact motionOk_of_same hm (by simp)
  | joinEnd => exact next rfl (joinEnd_motionOk hm)
  | registrationChange | registrationRefresh | crescendo | crescendoRepeatReceived | heartbeat | faultNoticeReceived
  | serviceReplyReceived | configurationRead | configurationWrite | slotWrite | memoryClear | restart =>
    exact next rfl (receive_motionOk _ _ hm)
  | numberClash => exact next rfl (motionOk_ite hm fun hm => motionOk_of_same hm (by simp [frameEnded]))
  | frameDiscarded framing bytes =>
    refine next rfl ?_
    split
    · exact receive_motionOk _ _ hm
    · unfold Machine.discard
      dsimp only
      repeat' split
      all_goals exact motionOk_of_same hm ⟨rfl, rfl, rfl⟩
  | sendAbort =>
    refine next rfl ?_
    split
    all_goals exact motionOk_of_same hm ⟨rfl, rfl, rfl⟩
  | sendBegin k =>
    refine next rfl (motionOk_ite hm fun hm => ?_)
    split
    all_goals exact motionOk_of_same hm ⟨rfl, rfl, rfl⟩
  | encoderHandover | idleReady | lineIdle | lineBusy | sendComplete =>
    exact next rfl (motionOk_ite hm fun hm => motionOk_of_same hm (by simp))
  | lampAnswerEnd l => exact next rfl (motionOk_of_same hm ⟨rfl, rfl, rfl⟩)

end MotionKept

/-- Settles O11: a step is a command with the rest of the queue behind it, or one millisecond, and both keep the law. -/
theorem stepKeepsTheMotionLaw : Obligations.StepKeepsTheMotionLaw := by
  unfold Obligations.StepKeepsTheMotionLaw
  intro s t hc hi hm h
  unfold step at h
  split at h
  · rename_i c rest _
    exact exec_motionOk (s := s.setPending rest) hc hi hm h
  · obtain rfl := Host.Outcome.next.inj h
    exact tick_motionOk hm

/-! ### The ends of pulses and settle windows (R109 to R111, R118) -/

/-- An update that leaves each Queued record Queued appends the controls of the records it queues (R105). -/
theorem update_of_stays_queued {s : State} {f : MotionRecord → MotionRecord} (h : motionOk s)
    (hstay : ∀ r ∈ s.motion.records, r.state = .queued → (f r).state = .queued) :
    s.motion.update f = { s.motion with
      records := s.motion.records.map f
      queue := s.motion.queue
        ++ (s.motion.records.filter fun r => !r.isQueued && (f r).isQueued).map MotionRecord.key } := by
  have hold : s.motion.queue.filter (fun k => s.motion.records.any fun r => r.key == k && (f r).isQueued) = s.motion.queue := by
    refine List.filter_eq_self.2 fun k hk => ?_
    obtain ⟨r, hr, hkey, hstate⟩ := ((motionOk_iff.1 h).queued k).1 hk
    exact List.any_eq_true.2 ⟨r, hr, by simp [hkey, MotionRecord.isQueued, hstay r hr hstate]⟩
  rw [Motion.update, hold]

theorem onRecord_eq {s : State} {d i : Nat} {r : MotionRecord} (f : MotionRecord → MotionRecord) (h : motionOk s)
    (hfind : s.motion.find d i = some r) {q : MotionRecord} (hq : q ∈ s.motion.records) :
    onRecord d i f q = if q.key = (d, i) then f r else q := by
  unfold onRecord
  by_cases hk : q.key = (d, i)
  · rw [if_pos (Prod.mk.inj hk), if_pos hk, eq_of_key (nodup_keys h) hfind hq hk]
  · rw [if_neg fun hc => hk (Prod.ext hc.1 hc.2), if_neg hk]

/-- An update of the record of one control that does not wait: the control goes to the tail of the queue where its record is Queued
then (R105). -/
theorem update_onRecord {s : State} {d i : Nat} {r : MotionRecord} (f : MotionRecord → MotionRecord) (h : motionOk s)
    (hfind : s.motion.find d i = some r) (hstate : r.state ≠ .queued) :
    s.motion.update (onRecord d i f) = { s.motion with
      records := s.motion.records.map fun q => if q.key = (d, i) then f r else q
      queue := s.motion.queue ++ if (f r).state = .queued then [(d, i)] else [] } := by
  obtain ⟨hmem, hkey⟩ := find_mem hfind
  have hself := fun q (hq : q ∈ s.motion.records) => onRecord_eq f h hfind hq
  have hwaits : r.isQueued = false := by simp [MotionRecord.isQueued, hstate]
  have hnew : ∀ q ∈ s.motion.records,
      (!q.isQueued && (onRecord d i f q).isQueued) = ((f r).isQueued && decide (q = r)) := fun q hq => by
    rw [hself q hq]
    by_cases hk : q.key = (d, i)
    · obtain rfl := eq_of_key (nodup_keys h) hfind hq hk
      simp [hkey, hwaits]
    · have hne : q ≠ r := fun he => hk (he ▸ hkey)
      simp [hk, hne]
  rw [update_of_stays_queued h fun q hq hqueued => ?stay, List.filter_congr hnew, List.map_congr_left hself]
  case stay =>
    have hk : q.key ≠ (d, i) := fun hk => hstate (eq_of_key (nodup_keys h) hfind hq hk ▸ hqueued)
    rwa [hself q hq, if_neg hk]
  have hnodup : s.motion.records.Nodup := (nodup_keys h).of_map
  by_cases hqueued : (f r).state = .queued
  · have hone : s.motion.records.filter (fun q => decide (q = r)) = [r] := by
      rw [List.filter_eq, List.count_eq_one_of_mem hnodup hmem, List.replicate_one]
    simp [MotionRecord.isQueued, hqueued, hone, hkey]
  · simp [MotionRecord.isQueued, hqueued]

/-- In Restarting no pulse starts (R107). -/
theorem judged_energized_restarting {s : State} (m : Motion) (hs : s.station = .restarting) :
    (judged s m).energized = m.energized := by
  simp [judged, startable, hs]

theorem exec_pulseEnd {s : State} {d i : Nat} {r : MotionRecord} (h : motionOk s) (hfind : s.motion.find d i = some r)
    (hcoil : r.coil.isSome = true) :
    exec (.pulseEnd d i) s = .next { s with
      motion := judged s {
        records := s.motion.records.map fun q => if q.key = (d, i) then r.endPulse s.config.settle else q
        queue := s.motion.queue
        energized := s.motion.energized - 1 }
      start := { s.start with
        noCoil := if s.station = .restarting ∧ s.motion.energized ≤ 1 then true else s.start.noCoil } } := by
  have hstate : r.state ≠ .queued := fun hq => by
    obtain ⟨⟨-, hr⟩, -⟩ := (motionOk_iff.1 h).records r (find_mem hfind).1
    simp only [hq] at hr
    simp [hr.2] at hcoil
  have hended : (r.endPulse s.config.settle).state ≠ .queued := by
    unfold MotionRecord.endPulse
    split
    · simp
    · exact hstate
  rw [exec, execPulseEnd, hfind]
  dsimp only
  rw [if_pos hcoil, update_onRecord _ h hfind hstate, if_neg hended, List.append_nil, judgePulses_judged]
  set m : Motion := {
    records := s.motion.records.map fun q => if q.key = (d, i) then r.endPulse s.config.settle else q
    queue := s.motion.queue
    energized := s.motion.energized - 1 } with hm
  have hreport : s.station = .restarting ∧ (judged s m).energized = 0 ↔ s.station = .restarting ∧ s.motion.energized ≤ 1 :=
    and_congr_right fun hs => by
      rw [judged_energized_restarting m hs]
      simp only [hm]
      omega
  refine congrArg _ ?_
  change reportNoCoil { s with motion := judged s m } = _
  unfold reportNoCoil
  simp only [hreport]
  split <;> rfl

theorem exec_settleEnd {s : State} {d i : Nat} {r : MotionRecord} (h : motionOk s) (hfind : s.motion.find d i = some r)
    (hstate : r.state = .settling) :
    exec (.settleEnd d i) s = .next (latchIf (r.judge.state == .stuck) .stopStuck { s with
      motion := judged s { s.motion with
        records := s.motion.records.map fun q => if q.key = (d, i) then r.judge else q
        queue := s.motion.queue ++ if r.judge.state = .queued then [(d, i)] else [] } }) := by
  rw [exec, execSettleEnd, hfind]
  dsimp only
  rw [if_pos hstate, moveRecords_judged, update_onRecord _ h hfind (by simp [hstate])]

/-- Settles O44: both ends update the one record, and pulses start after it. -/
theorem pulseAndSettleEnds : Obligations.PulseAndSettleEnds := by
  unfold Obligations.PulseAndSettleEnds
  refine ⟨⟨fun s d i r _ hmotion hfind hcoil => ?pulse, fun s d i hnone => ?noPulse⟩,
    fun s d i r _ hmotion hfind hstate => ?settle, fun s d i hnone => ?noWindow⟩
  case pulse =>
    intro new
    have hnew : r.endPulse s.config.settle = new := by
      unfold MotionRecord.endPulse
      simp only [new]
      cases r.state <;> rfl
    rw [exec_pulseEnd hmotion hfind hcoil, hnew]
  case noPulse =>
    rw [exec, execPulseEnd]
    split
    · rw [if_neg (by simp [hnone _ ‹_›])]
    · rfl
  case settle =>
    intro moved
    rw [exec_settleEnd hmotion hfind hstate]
    refine ⟨fun hagree => ?agrees, fun hdiffer hretry => ?again, fun hdiffer hretry => ?fails⟩
    case agrees =>
      simp [MotionRecord.judge, hagree, latchIf, moved]
    case again =>
      simp [MotionRecord.judge, hdiffer, hretry, latchIf, moved, Config.maxRetry]
    case fails =>
      simp [MotionRecord.judge, hdiffer, hretry, latchIf, latch_reported, moved, Config.maxRetry]
  case noWindow =>
    rw [exec, execSettleEnd]
    split
    · rw [if_neg (hnone _ ‹_›)]
    · rfl

/-! ### The fault acknowledge (R115, R158, R162) -/

theorem mem_faultKinds (k : FaultKind) : k ∈ faultKinds := by
  cases k <;> decide

theorem getLsbD_faultBit (j k : FaultKind) : (faultBit j).getLsbD (faultCode k) = decide (j = k) := by
  have hall : ∀ j ∈ faultKinds, ∀ k ∈ faultKinds, (faultBit j).getLsbD (faultCode k) = decide (j = k) := by decide
  exact hall j (mem_faultKinds j) k (mem_faultKinds k)

/-- The kinds in a set made of a list (R158). -/
theorem getLsbD_faultSetOf (ks : List FaultKind) (k : FaultKind) : (faultSetOf ks).getLsbD (faultCode k) = decide (k ∈ ks) := by
  have hfold : ∀ x : FaultSet, (ks.foldl (fun x j => x ||| faultBit j) x).getLsbD (faultCode k) =
      (x.getLsbD (faultCode k) || decide (k ∈ ks)) := by
    induction ks with
    | nil => simp
    | cons j ks ih =>
      intro x
      rw [List.foldl_cons, ih, BitVec.getLsbD_or, getLsbD_faultBit]
      simp [Bool.or_assoc, eq_comm]
  rw [faultSetOf, hfold 0#16, BitVec.getLsbD_zero, Bool.false_or]

theorem causePersists_iff (s : State) (k : FaultKind) : s.causePersists k = true ↔ persists s k := by
  have hpeers : ∀ p : Peer → Bool, (s.peers.any fun q => q.any p) = true ↔ ∃ r ∈ s.peers.reduceOption, p r = true := fun p => by
    simp only [List.any_eq_true, Option.any_eq_true, List.reduceOption_mem_iff]
    constructor
    · rintro ⟨_, hq, r, rfl, hr⟩
      exact ⟨r, hq, hr⟩
    · rintro ⟨r, hq, hr⟩
      exact ⟨some r, hq, r, rfl, hr⟩
  cases k with
  | stopStuck => simp [State.causePersists, persists]
  | linkQuality => exact hpeers _
  | peerLost =>
    refine (hpeers fun r => r.kind == .combination && r.presence == .absent).trans ?_
    simp [persists]
  | encoder | supplyLow1 | supplyLow2 | linkClash => exact Iff.rfl
  | memoryCheck | memoryWrite | peerTableFull | config => simp [State.causePersists, persists]

/-- Of the latched kinds those stay whose cause persists (R162). -/
theorem clearFaults_latched (s : State) (k : FaultKind) :
    (clearFaults s).latched k = true ↔ s.latched k = true ∧ persists (clearFaults s) k := by
  have hpersists : (clearFaults s).causePersists k = s.causePersists k := rfl
  rw [← causePersists_iff, hpersists]
  simp [State.latched, clearFaults, getLsbD_faultSetOf, mem_faultKinds]

/-- After the acknowledge no record is Stuck (R115). -/
theorem requeued_not_stuck (s : State) : ∀ r ∈ (moveRecords MotionRecord.requeue s).motion.records, r.state ≠ .stuck := by
  rw [moveRecords_judged]
  refine List.forall_mem_map.2 fun q hq => ?_
  obtain ⟨r, -, rfl⟩ := List.mem_map.1 hq
  split
  · simp
  · unfold MotionRecord.requeue
    split
    · simp
    · assumption

/-- Settles O46: in Awake the Stuck records are queued again before the kinds are judged; in Joining the kinds alone are. -/
theorem acknowledgeClearsWhatDoesNotPersist : Obligations.AcknowledgeClearsWhatDoesNotPersist := by
  unfold Obligations.AcknowledgeClearsWhatDoesNotPersist
  intro s n hf hmotion stuck m
  set u := atLine s n true with hu
  have hcarries : (s.functionOfLine n == .faultAcknowledge) = true := beq_iff_eq.2 hf
  refine ⟨fun hs => ?taken, fun hawake hjoining => ?lineAlone⟩
  case taken =>
    have hexec : exec (.faultAcknowledge n) s = .next (acknowledge u) := by
      rw [exec, execFaultAcknowledge, lineEvent_handed hcarries hs, hf, if_pos rfl, handPress]
    rcases hs with hs | hs
    · have hacknowledged : acknowledge u = clearFaults (moveRecords MotionRecord.requeue u) := if_pos hs
      have hrequeue : s.motion.update MotionRecord.requeue = { s.motion with
          records := s.motion.records.map MotionRecord.requeue
          queue := s.motion.queue ++ stuck.map MotionRecord.key } := by
        rw [update_of_stays_queued hmotion fun r _ hq => by simp [MotionRecord.requeue, hq]]
        have hstuck : s.motion.records.filter (fun r => !r.isQueued && r.requeue.isQueued) = stuck :=
          List.filter_congr fun r _ => by
            cases hstate : r.state <;> simp [MotionRecord.requeue, MotionRecord.isQueued, hstate]
        rw [hstuck]
      have hm : (moveRecords MotionRecord.requeue u).motion = m := by
        rw [moveRecords_judged]
        simp only [m, if_pos hs]
        exact congrArg (judged s) hrequeue
      have hmoved : moveRecords MotionRecord.requeue u = { u with motion := m } := by
        rw [← hm, moveRecords_judged]
      have hlatched : ∀ k, (acknowledge u).latched k = true ↔ s.latched k = true ∧ persists (acknowledge u) k := fun k => by
        have hkinds := clearFaults_latched (moveRecords MotionRecord.requeue u) k
        rw [hacknowledged]
        simpa [State.latched, hu] using hkinds
      refine ⟨_, hexec, ?_, hlatched, fun _ => ?_⟩
      · rw [hacknowledged, hmoved]
        rfl
      · refine Bool.eq_false_iff.2 fun hk => ?_
        obtain ⟨-, r, hr, hstuck⟩ := (hlatched .stopStuck).1 hk
        rw [hacknowledged] at hr
        exact requeued_not_stuck u r hr hstuck
    · have hacknowledged : acknowledge u = clearFaults u := by
        rw [acknowledge, if_neg (by simp [hu, hs]), if_pos (by simp [hu, hs])]
      have hm : m = s.motion := if_neg (by simp [hs])
      refine ⟨_, hexec, ?_, fun k => ?_, fun hawake => by simp [hs] at hawake⟩
      · rw [hacknowledged, hm]
        rfl
      · rw [hacknowledged]
        exact clearFaults_latched u k
  case lineAlone =>
    rw [exec, execFaultAcknowledge, lineEvent_only hcarries]
    rw [hf]
    cases hs : s.station <;> simp_all [handsOn]

end Sys2Proof.Proofs
end

section
/-!
PROOFS. The statements about samples of the console's lines and of the fixed lines, and about the ends of Start in Service and Unconfigured.
A sample is said in the words of R121 first; then a line whose change the sample has completed meets its own command.
-/

namespace Sys2Proof.Proofs

open Sys2Proof Sys2Proof.Machine Sys2Proof.Safety

/-! ### One sample of a line (R121) -/

theorem needed_runNeeded (mode : QualificationMode) : mode.needed = runNeeded mode := by cases mode <;> rfl

/-- A sample leaves a line as R121 says, and completes a change where the level differs for the run the mode needs. -/
theorem qualifySample_eq (needed : Nat) (level : Bool) (l : LineState) :
    qualifySample needed level l = (lineSampled needed level l, decide (level ≠ l.qualified ∧ needed ≤ l.run + 1)) := by
  by_cases hlevel : level = l.qualified
  · simp [qualifySample, lineSampled, hlevel]
  · by_cases hrun : l.run + 1 < needed
    · simp [qualifySample, lineSampled, hlevel, hrun, Nat.not_le.2 hrun]
    · simp [qualifySample, lineSampled, hlevel, hrun, Nat.not_lt.1 hrun]

/-! ### The eight lines of a sample (R119 to R121) -/

theorem functionOfLine_of_entry {s : State} {n : Nat} {e : LineEntry} (h : s.config.table[n]? = some e) :
    s.functionOfLine n = e.function := by
  rw [State.functionOfLine, h]

theorem qualified_of_line {s : State} {n : Nat} {l : LineState} (h : s.scanner.lines[n]? = some l) : s.qualified n = l.qualified := by
  rw [State.qualified, h]

/-- The lines of a group are those whose number gives the group's (R119). -/
theorem mem_groupLines (m n : Nat) : n ∈ groupLines m ↔ n / 8 = m := by
  simp only [groupLines, List.mem_map, List.mem_range]
  constructor
  · rintro ⟨k, hk, rfl⟩
    omega
  · rintro rfl
    exact ⟨n % 8, Nat.mod_lt _ (by omega), Nat.div_add_mod n 8⟩

/-- Places set one after another: each holds the value for it, the others what they held. -/
theorem getElem?_foldl_set {α : Type} (f : Nat → α) (ns : List Nat) (l : List α) (k : Nat) :
    (ns.foldl (fun l n => l.set n (f n)) l)[k]? = if k ∈ ns then l[k]?.map fun _ => f k else l[k]? := by
  induction ns generalizing l with
  | nil => simp
  | cons n ns ih =>
    rw [List.foldl_cons, ih, List.getElem?_set']
    by_cases hk : n = k
    · subst hk
      cases l[n]? <;> simp
    · simp [hk, Ne.symm hk]

/-- The sample of a line with an entry (R120, R121). -/
theorem sampled_of_entry {s : State} {n : Nat} {l : LineState} {e : LineEntry} (contacts : Byte) (hl : s.scanner.lines[n]? = some l)
    (he : s.config.table[n]? = some e) : s.sampled n (contactOf contacts n) =
      (lineSampled (runNeeded e.mode) (levelOf e contacts n) l,
        decide (levelOf e contacts n ≠ l.qualified ∧ runNeeded e.mode ≤ l.run + 1)) := by
  rw [State.sampled, hl, he]
  dsimp only
  rw [qualifySample_eq, needed_runNeeded]
  rfl

/-- A group's sample is the samples of its lines, and touches no other (R119, R121). -/
theorem sampleLines_groupSampled (m : Nat) (contacts : Byte) (s : State) : sampleLines m contacts s = groupSampled s m contacts := by
  have hlines : (groupLines m).foldl (fun ls n => ls.set n (s.sampled n (contactOf contacts n)).1) s.scanner.lines =
      (groupSampled s m contacts).scanner.lines := by
    refine List.ext_getElem? fun n => ?_
    simp only [getElem?_foldl_set, groupSampled, List.getElem?_mapIdx, mem_groupLines]
    cases hl : s.scanner.lines[n]? with
    | none => simp
    | some l =>
      cases he : s.config.table[n]? with
      | none => simp [State.sampled, hl, he]
      | some e =>
        rw [sampled_of_entry contacts hl he]
        split <;> simp
  rw [sampleLines, hlines]
  rfl

/-! ### The commands of completed changes (R125 to R127) -/

/-- A line that is qualified as it is to be stays as it is (R121). -/
theorem qualify_qualified (n : Nat) (s : State) : qualify n (s.qualified n) s = s := by
  have hlines : s.scanner.lines.modify n (LineState.take (s.qualified n)) = s.scanner.lines := by
    refine List.ext_getElem? fun k => ?_
    rw [List.getElem?_modify]
    split
    · subst k
      cases hl : s.scanner.lines[n]? with
      | none => rfl
      | some l => simp [qualified_of_line hl, LineState.take]
    · simp
  rw [qualify, hlines]
  rfl

/-- The command of a line that a sample has just qualified hands its change on, no more (R125; log entry 5). -/
theorem lineEvent_qualified {s : State} {n : Nat} {carries : LineFunction → Bool} (h : carries (s.functionOfLine n) = true) :
    lineEvent carries n (s.qualified n) s = handLine s n := by
  rw [lineEvent, if_pos h, qualify_qualified]
  rfl

/-- A function that forms no event reaches no block (R126, R127). -/
theorem handChange_of_no_command {f : LineFunction} {n : Nat} {v : Bool} (s : State) (h : changeCommand f n v = none) :
    handChange f v s = s := by
  cases f with
  | unused | protectOverride | encoderA | encoderB => simp [handChange, handPress, handRelease]
  | _ => cases h

/-- The command of a change is an event of the change's line, whose function is of the command's kind (R126; log entry 5). -/
theorem exec_changeCommand {f : LineFunction} {n : Nat} {v : Bool} {c : Instr} {s : State} (hc : changeCommand f n v = some c)
    (hindex : f = .encoderIndex → s.lineOf .encoderIndex = some n) :
    ∃ carries : LineFunction → Bool, carries f = true ∧ exec c s = .next (lineEvent carries n v s) := by
  cases f with
  | unused | protectOverride | encoderA | encoderB => cases hc
  | stopSense | consoleKey =>
    cases hc
    exact ⟨_, rfl, rfl⟩
  | encoderIndex =>
    cases v
    · cases hc
      exact ⟨_, rfl, rfl⟩
    · cases hc
      refine ⟨(· == .encoderIndex), rfl, ?_⟩
      change exec .indexEdge s = _
      rw [exec, execIndexEdge, hindex rfl]
  | _ =>
    cases v
    all_goals
      cases hc
      exact ⟨_, rfl, rfl⟩

/-- A configuration in force carries its encoder lines each on one line or on none (R123). -/
theorem encoderLines_of_configured {s : State} (hs : configured s) (hcfg : s.cfg.isSome = true) :
    encoderLinesOk s.config.table = true := by
  obtain ⟨c, hc⟩ := Option.isSome_iff_exists.1 hcfg
  simp only [configured, hc, figuresOk, Bool.and_eq_true] at hs
  simp [State.config, hc, hs]

/-- The one place of a list that meets a condition is the one that a search finds. -/
theorem findIdx?_of_countP {α : Type} {p : α → Bool} {l : List α} {n : Nat} {x : α} (hcount : l.countP p = 1)
    (hn : l[n]? = some x) (hx : p x = true) : l.findIdx? p = some n := by
  obtain ⟨hlt, rfl⟩ := List.getElem?_eq_some_iff.1 hn
  refine List.findIdx?_eq_some_iff_getElem.2 ⟨hlt, hx, fun j hj hp => ?_⟩
  have hbefore : 0 < (l.take n).countP p := List.countP_pos_iff.2 ⟨l[j], List.mem_take_iff_getElem.2 ⟨j, by omega, rfl⟩, hp⟩
  have hafter : 0 < (l.drop n).countP p := List.countP_pos_iff.2 ⟨l[n], List.mem_drop_iff_getElem.2 ⟨0, by omega, by simp⟩, hx⟩
  rw [← List.take_append_drop n l, List.countP_append] at hcount
  omega

/-- The Encoder index stands on one line, so its command finds the line that carries it (R123). -/
theorem lineOf_encoderIndex {s : State} {n : Nat} (hlines : encoderLinesOk s.config.table = true)
    (hf : s.functionOfLine n = .encoderIndex) : s.lineOf .encoderIndex = some n := by
  unfold State.functionOfLine at hf
  split at hf
  · rename_i e he
    rcases (encoderLinesOk_iff _).1 hlines with hone | hnone
    · exact findIdx?_of_countP (hone .encoderIndex (by simp)) he (beq_iff_eq.2 hf)
    · have habsent := List.countP_eq_zero.1 (hnone .encoderIndex (by simp)) e (List.mem_of_getElem? he)
      simp [hf] at habsent
  · cases hf

/-- The command that stands for line n having changed to the state it now has; none where its function forms no event. -/
def commandOfLine (s : State) (n : Nat) : Option Instr := changeCommand (s.functionOfLine n) n (s.qualified n)

/-- A line's command depends on the table and the lines alone. -/
theorem commandOfLine_handLine (s : State) (k : Nat) : commandOfLine (handLine s k) = commandOfLine s := by
  funext n
  simp [commandOfLine, State.functionOfLine, State.qualified, handLine]

theorem handLine_of_no_command {s : State} {n : Nat} (h : commandOfLine s n = none) : handLine s n = s :=
  handChange_of_no_command s h

/-- The command of a line as sampled is the handing on of its change (R125; log entry 5). -/
theorem exec_commandOfLine {s : State} {n : Nat} {c : Instr} (hlines : encoderLinesOk s.config.table = true)
    (hc : commandOfLine s n = some c) : exec c s = .next (handLine s n) := by
  obtain ⟨carries, hcarries, hexec⟩ := exec_changeCommand hc (lineOf_encoderIndex hlines)
  rw [hexec, lineEvent_qualified hcarries]

/-- Changes handed on one after another are their lines' commands run one after another (R125). -/
theorem runs_commandsOfLines (ns : List Nat) {s : State} (hlines : encoderLinesOk s.config.table = true) :
    Runs (ns.filterMap (commandOfLine s)) s (ns.foldl handLine s) := by
  induction ns generalizing s with
  | nil => rfl
  | cons n ns ih =>
    have hrest := ih (s := handLine s n) (by simpa [handLine] using hlines)
    rw [commandOfLine_handLine] at hrest
    rw [List.foldl_cons, List.filterMap_cons]
    cases hc : commandOfLine s n with
    | none => rwa [handLine_of_no_command hc] at hrest ⊢
    | some c => exact ⟨_, exec_commandOfLine hlines hc, hrest⟩

/-! ### A group's sample (R119, R125, R127) -/

/-- A line of the group after its sample (R121). -/
theorem groupSampled_line {s : State} {m n : Nat} {l : LineState} {e : LineEntry} (contacts : Byte) (hn : n / 8 = m)
    (hl : s.scanner.lines[n]? = some l) (he : s.config.table[n]? = some e) :
    (groupSampled s m contacts).scanner.lines[n]? = some (lineSampled (runNeeded e.mode) (levelOf e contacts n) l) := by
  simp [groupSampled, List.getElem?_mapIdx, hl, he, hn]

/-- The commands of a sample are those of the lines whose changes it completes, as it leaves them (R121, R125). -/
theorem sampleCommands_eq (s : State) (m : Nat) (contacts : Byte) :
    sampleCommands s m contacts = (s.changedLines m contacts).filterMap (commandOfLine (groupSampled s m contacts)) := by
  rw [sampleCommands, State.changedLines, groupLines, List.filterMap_filter, List.filterMap_map]
  refine List.filterMap_congr fun k hk => ?_
  have hgroup : (8 * m + k) / 8 = m := by
    have := List.mem_range.1 hk
    omega
  rw [Function.comp_apply]
  generalize 8 * m + k = n at hgroup ⊢
  cases hl : s.scanner.lines[n]? with
  | none => simp [State.sampled, hl]
  | some l =>
    cases he : s.config.table[n]? with
    | none => simp [State.sampled, hl, he]
    | some e =>
      have hline := groupSampled_line contacts hgroup hl he
      have hfunction : (groupSampled s m contacts).functionOfLine n = e.function := functionOfLine_of_entry he
      simp only [sampled_of_entry contacts hl he, commandOfLine, hfunction, qualified_of_line hline, decide_eq_true_eq]
      split
      · rename_i hchange
        rw [lineSampled, if_neg hchange.1, if_neg (by omega)]
      · rfl

/-- The group holds a track of the encoder (R127). -/
theorem groupHasTrack_iff (s : State) (m : Nat) : s.groupHasTrack m = true ↔
    ∃ n e, n / 8 = m ∧ s.config.table[n]? = some e ∧ (e.function = .encoderA ∨ e.function = .encoderB) := by
  simp only [State.groupHasTrack, List.any_eq_true, mem_groupLines, Bool.or_eq_true, beq_iff_eq]
  constructor
  · rintro ⟨n, hn, htrack⟩
    cases he : s.config.table[n]? with
    | none => simp [State.functionOfLine, he] at htrack
    | some e => exact ⟨n, e, hn, he, functionOfLine_of_entry he ▸ htrack⟩
  · rintro ⟨n, e, hn, he, htrack⟩
    exact ⟨n, hn, functionOfLine_of_entry he ▸ htrack⟩

/-- A track's line that is qualified as handed over stays as it is (R121). -/
theorem qualifyFunction_stateOfFunction (f : LineFunction) (s : State) : qualifyFunction f (s.stateOfFunction f) s = s := by
  unfold qualifyFunction State.stateOfFunction
  cases s.lineOf f with
  | none => rfl
  | some n => exact qualify_qualified n s

/-- The hand-over of the pair as the lines stand is the encoder's command, the lines standing (R81, R127). -/
theorem exec_encoderHandover_handPair {s : State} (h : s.hasEncoder = true) :
    exec (.encoderHandover (s.stateOfFunction .encoderA) (s.stateOfFunction .encoderB)) s = .next (handPair s) := by
  rw [exec, execEncoderHandover, if_pos h, qualifyFunction_stateOfFunction, qualifyFunction_stateOfFunction]
  rfl

/-- Settles O26: the lines are sampled together, the completed changes run as their lines' commands, and a track's group hands the pair
over last. -/
theorem groupSampleQualifiesAndHandsOn : Obligations.GroupSampleQualifiesAndHandsOn := by
  unfold Obligations.GroupSampleQualifiesAndHandsOn
  refine ⟨fun s m contacts hcfg hs hm => ?sampled, fun s m contacts hnone => ?notSampled⟩
  case notSampled =>
    have hnot : ¬(s.cfg.isSome = true ∧ m < 48) := fun ⟨hcfg, hm⟩ => by
      rcases hnone with h | h
      · simp [h] at hcfg
      · omega
    rw [exec, execGroupSample, if_neg hnot]
  case sampled =>
    intro track
    have htrack : s.groupHasTrack m = true ↔ track := groupHasTrack_iff s m
    generalize hv : (s.changedLines m contacts).foldl handLine (groupSampled s m contacts) = v
    have hexec : exec (.groupSample m contacts) s = .next (if s.groupHasTrack m then handPair v else v) := by
      rw [exec, execGroupSample, if_pos ⟨hcfg, hm⟩, sampleLines_groupSampled, hv]
    have hruns : Runs (sampleCommands s m contacts) (groupSampled s m contacts) v := by
      rw [sampleCommands_eq, ← hv]
      exact runs_commandsOfLines _ (encoderLines_of_configured (s := s) hs hcfg)
    refine ⟨v, _, hruns, hexec, fun h => ?alone, fun h => ?pair⟩
    case alone => rw [if_neg (mt htrack.1 h)]
    case pair =>
      have hconfig : v.config = s.config := by rw [← hv, handLines_config]; rfl
      have hencoder : v.hasEncoder = true := by
        simpa [State.hasEncoder, State.lineOf, hconfig] using hasEncoder_of_groupHasTrack hs (htrack.2 h)
      rw [if_pos (htrack.2 h)]
      exact ⟨exec_encoderHandover_handPair hencoder, by simp⟩

/-! ### The fixed lines (R130, R131) -/

/-- A press that the sample has completed is the restart line's own press (R130). -/
theorem exec_restartLinePress_pressed {s : State} (hs : s.station ≠ .off) (h : s.scanner.restart.qualified = some true) :
    exec .restartLinePress s = .next (enterRestarting .restartLine s) := by
  rw [exec, execRestartLinePress, if_neg hs, FixedLine.pressed, if_pos h]
  rfl

/-- The sample completes a press where a line held released has its sixth active sample (R130). -/
theorem sampleRestart_press (level : Bool) (l : FixedLine) :
    (sampleRestart level l).2 = decide (l.qualified = some false ∧ level = true ∧ 6 ≤ l.run + 1) := by
  unfold sampleRestart
  cases hq : l.qualified with
  | none => simp
  | some q => cases q <;> cases level <;> simp [qualifySample_eq, Config.fixedLineRun]

/-- A line whose press the sample has completed is held active (R130). -/
theorem sampleRestart_qualified {level : Bool} {l : FixedLine} (h : (sampleRestart level l).2 = true) :
    (sampleRestart level l).1.qualified = some true := by
  rw [sampleRestart_press, decide_eq_true_iff] at h
  obtain ⟨hq, hlevel, hrun⟩ := h
  simp [sampleRestart, hq, hlevel, qualifySample_eq, lineSampled, Config.fixedLineRun, Nat.not_lt.2 hrun]

/-- Settles O27: each line's sample by whether it is qualified, and the press by `exec_restartLinePress_pressed`. -/
theorem fixedLineSampleQualifiesBothLines : Obligations.FixedLineSampleQualifiesBothLines := by
  unfold Obligations.FixedLineSampleQualifiesBothLines
  refine ⟨fun s a b hs => ?powered, fun s a b hs => ⟨?sample, ?press⟩⟩
  case sample => rw [exec, execFixedLineSample, if_pos hs]
  case press => rw [exec, execRestartLinePress, if_pos hs]
  case powered =>
    intro line r p u
    have hr : (sampleRestart a s.scanner.restart).1 = r := by
      simp only [r, line, sampleRestart]
      cases s.scanner.restart.qualified <;> simp [qualifySample_eq, Config.fixedLineRun]
    have hp : sampleStrap b s.scanner.strap = p := by
      simp only [p, line, sampleStrap]
      cases s.scanner.strap.qualified with
      | none =>
        have hrun : (if s.scanner.strap.run = 0 ∨ b ≠ s.scanner.strap.level then 1 else s.scanner.strap.run + 1)
            = if s.scanner.strap.run ≠ 0 ∧ b = s.scanner.strap.level then s.scanner.strap.run + 1 else 1 := by grind
        simp only [hrun, Config.fixedLineRun]
      | some q => simp [qualifySample_eq, Config.fixedLineRun]
    have hexec : exec (.fixedLineSample a b) s =
        .next (if (sampleRestart a s.scanner.restart).2 then enterRestarting .restartLine u else u) := by
      rw [exec, execFixedLineSample, if_neg hs]
      simp only [hr, hp]
      rfl
    rw [hexec]
    by_cases hpress : (sampleRestart a s.scanner.restart).2 = true
    · have hq : r.qualified = some true := hr ▸ sampleRestart_qualified hpress
      rw [if_pos hpress, if_pos (by simpa [sampleRestart_press] using hpress), exec_restartLinePress_pressed (s := u) hs hq]
    · rw [if_neg hpress, if_neg (by simpa [sampleRestart_press] using hpress)]

/-! ### Where Start ends outside play (R136, R146, R168) -/

/-- The identity that slot 0 gives, as Table 11-2 reads its bytes (R136). -/
theorem identityOf_identity (slot0 : Option Content) : identityOf slot0 = identity slot0 := by
  cases slot0 with
  | none => rfl
  | some c => simp [identityOf, identity, identityOk, Content.number, Content.byte, and_assoc]

/-- In Start a report latches its kind, and no notice is handed (R145, R160). -/
theorem reported_silent {s : State} (k : FaultKind) (hs : s.station.takesHandOvers = false) :
    reported k s = { s with faults := s.faults ||| kindBit k } := by
  simp [reported, handedRoutine, hs]

/-- In Start the reading of slots latches, and slot 0 fixes the identity (R47, R136). -/
theorem fixIdentity_read {s : State} (slots : List Nat) (hs : s.station = .start) :
    fixIdentity (noteReads slots s) =
      { s with
        faults := faultsAfterReads slots s
        link := { s.link with
          number := (identity (newest s.memory 0)).1
          rate := (identity (newest s.memory 0)).2 } } := by
  have hread : newest (noteReads slots s).memory = newest s.memory := by simp
  rw [fixIdentity, hread, identityOf_identity, noteReads_afterReads, afterReads_silent _ (by rw [hs]; rfl)]
  rfl

/-- A station that enters Service or Unconfigured hands its first heartbeat from there (R146, R168). -/
theorem enterUnplayed_sent {st : Station} {r : ReportedState} (s : State) (hst : st.takesHandOvers = true)
    (hr : reportedState st = r) (hservice : st = .service ↔ r = .service) :
    enterUnplayed st s = heartbeatSent { s with station := st } r :=
  handHeartbeat_sent (s := { s with station := st }) hst hr hservice

/-- Settles O22: the slots are read and the identity fixed, then the station enters its state with the heartbeat handed. -/
theorem startEndsUnplayed : Obligations.StartEndsUnplayed := by
  unfold Obligations.StartEndsUnplayed
  refine ⟨fun s contacts hs hstrap => ?service, fun s contacts hs hstrap hrefused => ?unconfigured⟩
  case service =>
    intro faults
    have hfaults : faultsAfterReads [0] s = faults := by
      simp [faultsAfterReads, faults, failing]
    rw [exec, execConfigurationCheck, if_pos hs]
    simp only [hstrap, leaveStart, if_true]
    rw [fixIdentity_read _ hs, hfaults, enterUnplayed_sent (r := .service) _ rfl rfl (by simp)]
    rfl
  case unconfigured =>
    intro faults
    rw [exec, execConfigurationCheck, if_pos hs]
    simp only [hstrap, leaveStart, Bool.false_eq_true, if_false, hrefused]
    rw [fixIdentity_read _ hs, latch_reported, reported_silent _ (by rw [hs]; rfl),
      enterUnplayed_sent (r := .unconfigured) _ rfl rfl (by simp)]
    rfl

end Sys2Proof.Proofs
end

section
/-!
PROOFS. The statements about the organ link: the transmit queues and what keeps them, the line's commands, the bytes of a frame, and
the frames that reach no block. First what a hand-over does to a queue, then each operation, then every command.
-/

namespace Sys2Proof.Proofs

open Sys2Proof Sys2Proof.Machine Sys2Proof.Safety

/-! ### A transmit queue (R137, R138) -/

/-- A queue of frames of one class, no two of one key. -/
structure QueueSound (ok : Frame → Prop) (q : List Frame) : Prop where
  frames : ∀ f ∈ q, ok f
  keys : (q.map frameKey).Nodup

theorem replaceWaiting_keys (q : List Frame) (f : Frame) : (replaceWaiting q f).map frameKey = q.map frameKey := by
  rw [replaceWaiting, List.map_map]
  refine List.map_congr_left fun g _ => ?_
  rw [Function.comp_apply]
  split
  · exact Eq.symm ‹_›
  · rfl

theorem QueueSound.replaced {ok : Frame → Prop} {q : List Frame} {f : Frame} (h : QueueSound ok q) (hf : ok f) :
    QueueSound ok (replaceWaiting q f) := by
  refine ⟨List.forall_mem_map.2 fun g hg => ?_, by rw [replaceWaiting_keys]; exact h.keys⟩
  split
  · exact hf
  · exact h.frames g hg

theorem waitsIn_iff (q : List Frame) (f : Frame) : waitsIn q f = true ↔ frameKey f ∈ q.map frameKey := by
  simp [waitsIn]

/-- A hand-over keeps the queue's law: the key it brings to the tail is new there (R138). -/
theorem QueueSound.enqueued {ok : Frame → Prop} {q : List Frame} {f : Frame} (h : QueueSound ok q) (hf : ok f) :
    QueueSound ok (enqueue q f) := by
  unfold enqueue
  split
  · exact h.replaced hf
  · rename_i hnew
    rw [waitsIn_iff] at hnew
    refine ⟨fun g hg => ?_, ?_⟩
    · rcases List.mem_append.1 hg with hq | hlast
      · exact h.frames g hq
      · rwa [List.mem_singleton.1 hlast]
    · rw [List.map_append]
      exact List.nodup_append'.2 ⟨h.keys, List.nodup_singleton _, by simpa using hnew⟩

/-- A frame goes back to the head of its queue where no later one of its key waits (R141). -/
theorem QueueSound.returned {ok : Frame → Prop} {q : List Frame} {f : Frame} (h : QueueSound ok q) (hf : ok f) :
    QueueSound ok (if waitsIn q f then q else f :: q) := by
  split
  · exact h
  · rename_i hnew
    rw [waitsIn_iff] at hnew
    exact ⟨List.forall_mem_cons.2 ⟨hf, h.frames⟩, List.nodup_cons.2 ⟨hnew, h.keys⟩⟩

theorem QueueSound.tail {ok : Frame → Prop} {q : List Frame} {f : Frame} (h : QueueSound ok (f :: q)) : QueueSound ok q :=
  ⟨fun g hg => h.frames g (List.mem_cons_of_mem f hg), (List.nodup_cons.1 h.keys).2⟩

/-- A queue holds no more frames than there are keys of its class (R137). -/
theorem QueueSound.length_le {ok : Frame → Prop} {q : List Frame} {ks : List FrameKey} (h : QueueSound ok q)
    (hks : ∀ f, ok f → frameKey f ∈ ks) : q.length ≤ ks.length := by
  rw [← List.length_map (f := frameKey)]
  exact (List.subperm_of_subset h.keys (List.forall_mem_map.2 fun f hf => hks f (h.frames f hf))).length_le

/-- The keys of the urgent queue (R137). -/
def urgentKeys : List FrameKey := .crescendo :: (List.range 8).map .registrationChange

/-- The keys of the routine queue (R137). -/
def routineKeys : List FrameKey :=
  [.heartbeat, .crescendoRepeat, .serviceReply] ++ (List.range 8).map .registrationRefresh ++ faultKinds.map .faultNotice

theorem frameKey_mem_urgentKeys {f : Frame} (h : urgentFrame f) : frameKey f ∈ urgentKeys := by
  cases f with
  | registrationChange d => exact List.mem_cons_of_mem _ (List.mem_map_of_mem (List.mem_range.2 h))
  | crescendo => exact List.mem_cons_self
  | _ => exact h.elim

theorem frameKey_mem_routineKeys {f : Frame} (h : routineFrame f) : frameKey f ∈ routineKeys := by
  cases f with
  | registrationRefresh d =>
    exact List.mem_append_left _ (List.mem_append_right _ (List.mem_map_of_mem (List.mem_range.2 h)))
  | faultNotice k => exact List.mem_append_right _ (List.mem_map_of_mem (mem_faultKinds k))
  | heartbeat | crescendoRepeat | serviceReply => simp [frameKey, routineKeys]
  | _ => exact h.elim

/-! ### The link's law (R134, R137, R142) -/

/-- What linkOk says of the Link Controller. -/
structure LinkLaw (l : Link) : Prop where
  urgent : QueueSound urgentFrame l.urgent
  routine : QueueSound routineFrame l.routine
  outgoing : ∀ f, l.outgoing = some f → urgentFrame f ∨ routineFrame f
  sending : l.outgoing ≠ none → l.idle = false
  receiving : l.receiving = true → l.idle = false ∧ l.outgoing = none ∧ l.yield = false

theorem linkOk_iff {s : State} : linkOk s ↔ LinkLaw s.link ∧ s.refreshPointer < 8 :=
  ⟨fun ⟨hurgent, hroutine, hukeys, hrkeys, hout, hsending, hreceiving, hpointer⟩ =>
      ⟨⟨⟨hurgent, hukeys⟩, ⟨hroutine, hrkeys⟩, hout, hsending, hreceiving⟩, hpointer⟩,
    fun ⟨⟨⟨hurgent, hukeys⟩, ⟨hroutine, hrkeys⟩, hout, hsending, hreceiving⟩, hpointer⟩ =>
      ⟨hurgent, hroutine, hukeys, hrkeys, hout, hsending, hreceiving, hpointer⟩⟩

/-- A frame that a block may hand over, of either class (R135, R137). -/
def Handable (f : Frame) : Prop := urgentFrame f ∨ routineFrame f

theorem isUrgent_of_urgentFrame {f : Frame} (h : urgentFrame f) : isUrgent f = true := by
  cases f with
  | registrationChange | crescendo => rfl
  | _ => exact h.elim

theorem isUrgent_of_routineFrame {f : Frame} (h : routineFrame f) : isUrgent f = false := by
  cases f with
  | registrationChange | crescendo => exact h.elim
  | _ => rfl

section LinkLaw

variable {l : Link} {f : Frame}

/-- A frame handed joins the queue of its class (R138). -/
theorem LinkLaw.handed (h : LinkLaw l) (hf : Handable f) : LinkLaw (linkHanded l f) := by
  obtain ⟨hurgent, hroutine, hout, hsending, hreceiving⟩ := h
  unfold linkHanded
  rcases hf with hf | hf
  · rw [if_pos (isUrgent_of_urgentFrame hf)]
    exact ⟨hurgent.enqueued hf, hroutine, hout, hsending, hreceiving⟩
  · rw [if_neg (by simp [isUrgent_of_routineFrame hf])]
    exact ⟨hurgent, hroutine.enqueued hf, hout, hsending, hreceiving⟩

/-- A frame aborted returns to the queue of its class, and the frame of another station is received (R141, R142). -/
theorem LinkLaw.aborted (h : LinkLaw l) (hf : l.outgoing = some f) :
    LinkLaw { l.returned f with outgoing := none, receiving := true, yield := false } := by
  have hidle : l.idle = false := h.sending (by simp [hf])
  unfold Link.returned
  rcases h.outgoing f hf with hclass | hclass
  · rw [if_pos (isUrgent_of_urgentFrame hclass)]
    exact ⟨h.urgent.returned hclass, h.routine, by simp, by simp, fun _ => ⟨hidle, rfl, rfl⟩⟩
  · rw [if_neg (by simp [isUrgent_of_routineFrame hclass])]
    exact ⟨h.urgent, h.routine.returned hclass, by simp, by simp, fun _ => ⟨hidle, rfl, rfl⟩⟩

/-- The head of a queue is taken to be sent, and the line is busy with it (R141). -/
theorem LinkLaw.begun (h : LinkLaw l) (released : Nat) (slots : Option Nat) :
    LinkLaw { l.takeHead with idle := false, receiving := false, released := released, slotsBegun := slots } := by
  unfold Link.takeHead
  split
  · rename_i f rest hurgent
    have hsound : QueueSound urgentFrame (f :: rest) := hurgent ▸ h.urgent
    exact ⟨hsound.tail, h.routine, fun g hg => .inl (Option.some.inj hg ▸ hsound.frames f List.mem_cons_self), by simp, by simp⟩
  · rename_i f rest _ hroutine
    have hsound : QueueSound routineFrame (f :: rest) := hroutine ▸ h.routine
    exact ⟨h.urgent, hsound.tail, fun g hg => .inr (Option.some.inj hg ▸ hsound.frames f List.mem_cons_self), by simp, by simp⟩
  · exact ⟨h.urgent, h.routine, h.outgoing, by simp, by simp⟩

/-- The line busy after an idle or a received frame (R134, R142). -/
theorem LinkLaw.busied (h : LinkLaw l) {receiving : Bool} (hout : l.outgoing = none) : LinkLaw (l.busied receiving) :=
  ⟨h.urgent, h.routine, h.outgoing, fun _ => rfl, fun _ => ⟨rfl, hout, rfl⟩⟩

/-- The line idle while the station sends nothing (R133). -/
theorem LinkLaw.idled (h : LinkLaw l) (hout : l.outgoing = none) : LinkLaw l.idled :=
  ⟨h.urgent, h.routine, h.outgoing, fun hsends => absurd hout hsends, by simp [Link.idled]⟩

/-- A station that receives or finds the line idle sends nothing (R134, R142). -/
theorem LinkLaw.outgoing_none (h : LinkLaw l) (hl : l.idle = true ∨ l.receiving = true) : l.outgoing = none := by
  rcases hl with hidle | hreceiving
  · by_contra hsends
    simp [h.sending hsends] at hidle
  · exact (h.receiving hreceiving).2.1

end LinkLaw

/-! ### What an operation keeps of the link -/

/-- From s to t the link's law is kept. -/
def LinkKept (s t : State) : Prop := linkOk s → linkOk t

section LinkKept

variable {s t u : State}

theorem LinkKept.refl (s : State) : LinkKept s s := id

theorem LinkKept.trans (h : LinkKept s t) (h' : LinkKept t u) : LinkKept s u := h' ∘ h

/-- An operation that leaves link and refresh pointer. -/
theorem LinkKept.of_same (h : t.link = s.link ∧ t.refreshPointer = s.refreshPointer) : LinkKept s t := by
  obtain ⟨hlink, hpointer⟩ := h
  exact fun hs => by rwa [linkOk_iff, hlink, hpointer, ← linkOk_iff]

/-- An operation on the link alone. -/
theorem LinkKept.of_link (hlink : LinkLaw s.link → LinkLaw t.link) (hpointer : t.refreshPointer = s.refreshPointer) :
    LinkKept s t := fun hs => by
  obtain ⟨hlaw, hbound⟩ := linkOk_iff.1 hs
  exact linkOk_iff.2 ⟨hlink hlaw, hpointer ▸ hbound⟩

/-- What comes last leaves link and refresh pointer. -/
theorem LinkKept.then_same (h : LinkKept s t) (hu : u.link = t.link ∧ u.refreshPointer = t.refreshPointer) : LinkKept s u :=
  h.trans (.of_same hu)

/-- What comes first leaves link and refresh pointer. -/
theorem LinkKept.of_before (h : LinkKept t u) (ht : t.link = s.link ∧ t.refreshPointer = s.refreshPointer) : LinkKept s u :=
  .trans (.of_same ht) h

theorem LinkKept.ite {p : Prop} [Decidable p] (h : p → LinkKept s t) : LinkKept s (if p then t else s) := by
  split
  · exact h ‹_›
  · exact .refl s

theorem handOver_linkKept {f : Frame} (hf : Handable f) (s : State) : LinkKept s (handOver f s) :=
  .ite fun _ => .of_link (fun h => h.handed hf) rfl

theorem handOverAll_linkKept {fs : List Frame} (hfs : ∀ f ∈ fs, Handable f) (s : State) : LinkKept s (handOverAll fs s) := by
  induction fs generalizing s with
  | nil => exact .refl s
  | cons f fs ih =>
    obtain ⟨hf, hrest⟩ := List.forall_mem_cons.1 hfs
    exact (handOver_linkKept hf s).trans (ih hrest (handOver f s))

/-! ### Reports and replies (R47, R59, R66, R160) -/

theorem latch_linkKept (k : FaultKind) (s : State) : LinkKept s (latch k s) := by
  unfold latch
  dsimp only
  split
  · exact (handOver_linkKept (f := .faultNotice k) (.inr trivial) _).of_before ⟨rfl, rfl⟩
  · exact .of_same ⟨rfl, rfl⟩

theorem latchIf_linkKept (b : Bool) (k : FaultKind) (s : State) : LinkKept s (latchIf b k s) := .ite fun _ => latch_linkKept k s

theorem noteReads_linkKept (slots : List Nat) (s : State) : LinkKept s (noteReads slots s) := latchIf_linkKept _ _ s

theorem noticesAtStartEnd_linkKept (s : State) : LinkKept s (noticesAtStartEnd s) :=
  handOverAll_linkKept (List.forall_mem_map.2 fun k _ => (.inr trivial : Handable (.faultNotice k))) s

theorem reply_linkKept (request slot : Nat) (result : ReplyResult) (content : Option Content) (s : State) :
    LinkKept s (reply request slot result content s) :=
  handOver_linkKept (f := .serviceReply request slot result content) (.inr trivial) s

theorem settlementReply_linkKept (e : WriteEntry) (done : Bool) (s : State) : LinkKept s (settlementReply e done s) := by
  unfold settlementReply
  split
  · exact reply_linkKept _ _ _ _ s
  · exact .refl s

theorem settle_linkKept (kind : FlightKind) (done : Bool) (s : State) : LinkKept s (settle kind done s) := by
  cases kind with
  | queue =>
    unfold settle settleEntry
    dsimp only
    split
    · exact (settlementReply_linkKept _ done _).of_before ⟨rfl, rfl⟩
    · exact .of_same ⟨rfl, rfl⟩
  | refresh | clear => exact .of_same ⟨rfl, rfl⟩

theorem LinkKept.writeBegun (h : LinkKept s t) : LinkKept s (reportDrained (beginWrite t)) := h.then_same (by simp)

theorem judgeReadback_linkKept (x : SlotImage) (passes asWritten : Bool) (f : Flight) (s : State) :
    LinkKept s (judgeReadback x passes asWritten f s) := by
  unfold judgeReadback
  dsimp only
  have hread := (latchIf_linkKept (!passes) .memoryCheck (s.setMemory { s.memory with
    cells := writeSlotImage s.memory.cells f.slot x })).of_before (s := s) (by simp)
  repeat' split
  · exact (hread.trans (settle_linkKept f.kind true _)).writeBegun
  · exact ((hread.trans (latch_linkKept .memoryWrite _)).trans (settle_linkKept f.kind false _)).writeBegun
  · exact hread.then_same (by simp)

theorem refreshWith_linkKept (content : Option Content) (s : State) : LinkKept s (refreshWith content s) := by
  cases content with
  | some c => exact .of_same (by simp [refreshWith])
  | none => exact (latch_linkKept .memoryCheck s).then_same (by simp [refreshWith])

/-! ### Registration changes and refreshes (R6, R13 to R15) -/

theorem changeDivision_linkKept {x : Nat × StopSet} (hx : x.1 < 8) (s : State) : LinkKept s (changeDivision s x) :=
  (handOver_linkKept (f := .registrationChange _ _ _) (.inl hx) _).of_before ⟨rfl, rfl⟩

theorem changeDivisions_linkKept {cs : List (Nat × StopSet)} (hcs : ∀ x ∈ cs, x.1 < 8) (s : State) :
    LinkKept s (cs.foldl changeDivision s) := by
  induction cs generalizing s with
  | nil => exact .refl s
  | cons x cs ih =>
    obtain ⟨hx, hrest⟩ := List.forall_mem_cons.1 hcs
    exact (changeDivision_linkKept hx s).trans (ih hrest _)

theorem localChange_linkKept {cs : List (Nat × StopSet)} (hcs : ∀ x ∈ cs, x.1 < 8) (s : State) :
    LinkKept s (localChange cs s) := by
  unfold localChange
  split
  · exact .refl s
  · exact (changeDivisions_linkKept hcs s).then_same (by simp)

/-- The pointer stays below the division count, or goes back to 0 (R13). -/
theorem refreshNext_linkKept (hd : s.divisionCount ≤ 8) : LinkKept s (refreshNext s) := fun h => by
  obtain ⟨-, hpointer⟩ := linkOk_iff.1 h
  obtain ⟨hlaw, -⟩ := linkOk_iff.1 (handOver_linkKept (f := s.refreshFrame s.refreshPointer) (.inr hpointer) s h)
  refine linkOk_iff.2 ⟨hlaw, ?_⟩
  show (if s.refreshPointer + 1 < s.divisionCount then s.refreshPointer + 1 else 0) < 8
  split <;> omega

theorem refreshBurst_linkKept (hd : s.divisionCount ≤ 8) : LinkKept s (refreshBurst s) :=
  handOverAll_linkKept
    (List.forall_mem_map.2 fun d hk => (.inr ((List.mem_range.1 hk).trans_le hd) : Handable (s.refreshFrame d))) s

theorem handMotion_linkKept {d : Nat} (i : Nat) (v : Bool) (hd : d < 8) (s : State) : LinkKept s (handMotion d i v s) :=
  localChange_linkKept (List.forall_mem_singleton.2 hd) s

theorem senseChange_linkKept {d : Nat} (i : Nat) (v : Bool) (hd : d < 8) (s : State) : LinkKept s (senseChange d i v s) := by
  unfold senseChange
  dsimp only
  repeat' split
  · exact (handMotion_linkKept i v hd _).of_before (by simp)
  all_goals exact .of_same (by simp)

/-! ### The Crescendo Unit (R80 to R96) -/

/-- The crescendo frame is urgent, and the repeat whose content it replaces routine (R95). -/
theorem announceCrescendo_linkKept (s : State) : LinkKept s (announceCrescendo s) :=
  (handOver_linkKept (f := .crescendo s.crescendoContent) (.inl trivial) s).trans
    (.of_link (fun h => ⟨h.urgent, h.routine.replaced trivial, h.outgoing, h.sending, h.receiving⟩) rfl)

theorem handRepeat_linkKept (s : State) : LinkKept s (handRepeat s) :=
  handOver_linkKept (f := .crescendoRepeat s.crescendoContent) (.inr trivial) s

theorem LinkKept.effectiveFormed (h : LinkKept s t) : LinkKept s (formEffective t) := h.then_same (by simp)

theorem formAdditions_linkKept (old : CrescendoUnit) (s : State) : LinkKept s (formAdditions old s) := by
  unfold formAdditions
  dsimp only
  have hread : ∀ v, LinkKept s ((noteReads s.additionSlots s).setCrescendo v) := fun v =>
    (noteReads_linkKept s.additionSlots s).then_same ⟨rfl, rfl⟩
  split
  · exact (hread _).effectiveFormed
  · exact ((hread _).trans (announceCrescendo_linkKept _)).effectiveFormed

theorem evaluateStage_linkKept (s : State) : LinkKept s (evaluateStage s) := by
  unfold evaluateStage
  dsimp only
  repeat' split
  · exact .refl s
  · exact .refl s
  · exact (formAdditions_linkKept _ _).of_before ⟨rfl, rfl⟩

theorem wakeCrescendo_linkKept (s : State) : LinkKept s (wakeCrescendo s) :=
  (formAdditions_linkKept s.crescendo _).of_before ⟨rfl, rfl⟩

theorem phaseError_linkKept (s : State) : LinkKept s (phaseError s) := by
  unfold phaseError
  dsimp only
  repeat' split
  · exact .refl s
  · exact .of_same ⟨rfl, rfl⟩
  · exact (latch_linkKept _ _).of_before ⟨rfl, rfl⟩

theorem moveCount_linkKept (p : Nat) (s : State) : LinkKept s (moveCount p s) := by
  unfold moveCount
  dsimp only
  split
  · exact (evaluateStage_linkKept _).of_before ⟨rfl, rfl⟩
  · exact .of_same ⟨rfl, rfl⟩

theorem judgePair_linkKept (a b : Bool) (s : State) : LinkKept s (judgePair a b s) := by
  unfold judgePair
  dsimp only
  repeat' split
  · exact .of_same ⟨rfl, rfl⟩
  · exact (moveCount_linkKept _ _).of_before ⟨rfl, rfl⟩
  · exact (moveCount_linkKept _ _).of_before ⟨rfl, rfl⟩
  · exact (phaseError_linkKept _).of_before ⟨rfl, rfl⟩
  · exact .refl s

theorem indexEdge_linkKept (s : State) : LinkKept s (indexEdge s) := by
  have hedge : ∀ b v, LinkKept s (latchIf b .encoder (s.setCrescendo v)) := fun b v =>
    (latchIf_linkKept b _ (s.setCrescendo v)).of_before ⟨rfl, rfl⟩
  unfold indexEdge
  dsimp only
  repeat' split
  · exact (hedge _ _).trans (evaluateStage_linkKept _)
  · exact hedge _ _
  · exact .refl s

theorem setTutti_linkKept (v : Bool) (s : State) : LinkKept s (setTutti v s) := by
  unfold setTutti
  split
  · exact .refl s
  · exact (formAdditions_linkKept _ _).of_before ⟨rfl, rfl⟩

theorem captureStage_linkKept (s : State) : LinkKept s (captureStage s) := by
  unfold captureStage
  dsimp only
  repeat' split
  · exact .of_same (by simp)
  · rename_i u hu
    obtain ⟨-, -, -, -, -, -, hpointer, -, -, -, -, -, hlink, -⟩ := writeRequest_frame hu
    exact ((noteReads_linkKept _ s).then_same ⟨hlink, hpointer⟩).trans (formAdditions_linkKept _ u)
  · exact .of_same (by simp)

theorem captureTutti_linkKept (s : State) : LinkKept s (captureTutti s) := by
  unfold captureTutti
  repeat' split
  · exact .of_same (by simp)
  · exact (formAdditions_linkKept _ _).of_before (by simp [writeRequest_frame ‹_›])
  · exact .of_same (by simp [writeRequest_frame ‹_›])
  · exact .of_same (by simp)

theorem pressTutti_linkKept (s : State) : LinkKept s (pressTutti s) := by
  refine .ite fun _ => ?_
  split
  · exact captureTutti_linkKept s
  · exact setTutti_linkKept _ s

theorem countRepeat_linkKept (s : State) : LinkKept s (countRepeat s) := by
  unfold countRepeat
  split
  · exact .of_same ⟨rfl, rfl⟩
  · exact (handRepeat_linkKept _).of_before ⟨rfl, rfl⟩

/-! ### Pistons, cancels, levels and steps (R24 to R30, R69 to R73) -/

theorem recallPiston_linkKept (p : Piston) (hd : s.divisionCount ≤ 8) : LinkKept s (recallPiston p s) := by
  have hrecalled : ∀ r, ∀ x ∈ recallChanges s r, x.1 < 8 := fun r =>
    List.forall_mem_map.2 fun _ hk => (List.mem_range.1 (List.mem_of_mem_filter hk)).trans_le hd
  unfold recallPiston
  split
  · exact (localChange_linkKept (hrecalled _) _).of_before ⟨rfl, rfl⟩
  · exact (latch_linkKept _ s).then_same ⟨rfl, rfl⟩

theorem cancelAll_linkKept (hd : s.divisionCount ≤ 8) : LinkKept s (cancelAll s) := by
  have hchange := localChange_linkKept (cs := (List.range s.divisionCount).map fun d => (d, 0#48))
    (List.forall_mem_map.2 fun _ hk => (List.mem_range.1 hk).trans_le hd) s
  exact (hchange.trans (setTutti_linkKept false _)).then_same ⟨rfl, rfl⟩

theorem pressPiston_linkKept (p : Piston) (r : Record) (hd : s.divisionCount ≤ 8) :
    LinkKept s (if s.setIsHeld then capturePiston p r (localEvent s) else recallPiston p (localEvent s)) := by
  split
  · exact .of_same (by simp)
  · exact (recallPiston_linkKept (s := localEvent s) p hd).of_before ⟨rfl, rfl⟩

theorem pressDivisionCancel_linkKept {d : Nat} (hd : d < 8) (s : State) : LinkKept s (pressDivisionCancel d s) := by
  refine .ite fun _ => ?_
  dsimp only
  split
  · exact .of_same ⟨rfl, rfl⟩
  · exact (localChange_linkKept (List.forall_mem_singleton.2 hd) _).of_before ⟨rfl, rfl⟩

theorem loadLevel_linkKept (n : Nat) (s : State) : LinkKept s (loadLevel n s) := (noteReads_linkKept _ s).then_same ⟨rfl, rfl⟩

theorem changeLevel_linkKept (n : Nat) (s : State) : LinkKept s (changeLevel n (localEvent s)) :=
  (loadLevel_linkKept n _).of_before ⟨rfl, rfl⟩

theorem pressLevelUp_linkKept (s : State) : LinkKept s (pressLevelUp s) := by
  refine .ite fun _ => ?_
  dsimp only
  split
  · exact changeLevel_linkKept _ s
  · exact .of_same ⟨rfl, rfl⟩

theorem pressLevelDown_linkKept (s : State) : LinkKept s (pressLevelDown s) := by
  refine .ite fun _ => ?_
  dsimp only
  split
  · exact changeLevel_linkKept _ s
  · exact .of_same ⟨rfl, rfl⟩

/-- A step that is performed is a recall or a cancel (R73). -/
theorem performStep_linkKept (hd : s.divisionCount ≤ 8) : LinkKept s (performStep s) := by
  unfold performStep
  repeat' split
  · rename_i x _ _
    cases x with
    | general | divisional => exact (recallPiston_linkKept (s := localEvent s) _ hd).of_before ⟨rfl, rfl⟩
    | generalCancel => exact (cancelAll_linkKept (s := localEvent s) hd).of_before ⟨rfl, rfl⟩
  all_goals exact .refl s

theorem setCursor_performStep_linkKept (n : Nat) (hd : s.divisionCount ≤ 8) : LinkKept s (performStep (setCursor n s)) :=
  (performStep_linkKept (s := setCursor n s) hd).of_before ⟨rfl, rfl⟩

theorem pressNext_linkKept (hd : s.divisionCount ≤ 8) : LinkKept s (pressNext s) := by
  unfold pressNext stepNext
  repeat' split
  · exact .of_same (by simp)
  · exact setCursor_performStep_linkKept _ hd
  · exact .of_same ⟨rfl, rfl⟩
  · exact .refl s

theorem pressPrevious_linkKept (hd : s.divisionCount ≤ 8) : LinkKept s (pressPrevious s) := by
  unfold pressPrevious stepPrevious
  repeat' split
  · exact .of_same (by simp)
  · exact setCursor_performStep_linkKept _ hd
  all_goals exact .refl s

/-! ### Changes of the station state (R116, R117, R129, R154, R155) -/

theorem enterDormant_linkKept (s : State) : LinkKept s (enterDormant s) := .of_same (by simp [enterDormant])

theorem enterAwake_linkKept (s : State) : LinkKept s (enterAwake s) := (wakeCrescendo_linkKept _).of_before (by simp)

theorem judgeConsole_linkKept (s : State) : LinkKept s (judgeConsole s) := by
  unfold judgeConsole
  repeat' split
  · exact .refl s
  · exact enterDormant_linkKept s
  · exact (enterAwake_linkKept (takeReference s)).of_before (by simp)
  all_goals exact .refl s

theorem enterRestarting_linkKept (cause : StartCause) (s : State) : LinkKept s (enterRestarting cause s) := by
  unfold enterRestarting
  split
  · exact .refl s
  · exact .of_same (by simp)

/-- The divisions the power-return policy changes are those of the configuration (R154). -/
theorem policyChanges_lt : ∀ x ∈ s.policyChanges, x.1 < s.divisionCount := by
  have hunset : ∀ d ∈ s.unsetDivisions, d < s.divisionCount := fun d hd => List.mem_range.1 (List.mem_of_mem_filter hd)
  unfold State.policyChanges
  split
  · simp
  · exact List.forall_mem_map.2 hunset
  · exact List.forall_mem_map.2 hunset
  · split
    · exact List.forall_mem_map.2 fun d hd => hunset d (List.mem_of_mem_filter hd)
    · simp

theorem applyPolicy_linkKept (hd : s.divisionCount ≤ 8) : LinkKept s (applyPolicy s) :=
  (noteReads_linkKept s.policyReads s).trans (localChange_linkKept (fun x hx => (policyChanges_lt x hx).trans_le hd) _)

theorem joinEnd_linkKept (hd : s.divisionCount ≤ 8) :
    LinkKept s
      (if s.station = .joining then
        let t := applyPolicy (s.setStart { s.start with joinMs := Config.joinMs })
        if t.consoleOn then enterAwake t else enterDormant t
      else s) := by
  refine .ite fun _ => ?_
  have hpolicy : LinkKept s (applyPolicy (s.setStart { s.start with joinMs := Config.joinMs })) :=
    (applyPolicy_linkKept (s := s.setStart { s.start with joinMs := Config.joinMs }) hd).of_before ⟨rfl, rfl⟩
  dsimp only
  split
  · exact hpolicy.trans (enterAwake_linkKept _)
  · exact hpolicy.trans (enterDormant_linkKept _)

theorem handHeartbeat_linkKept (s : State) : LinkKept s (handHeartbeat s) :=
  (handOver_linkKept (f := .heartbeat s.heartbeatContent) (.inr trivial) s).then_same ⟨rfl, rfl⟩

theorem heartbeatPeriod_linkKept (hd : s.divisionCount ≤ 8) :
    LinkKept s
      (if s.station.heartbeats then
        let t := handHeartbeat (s.setStart { s.start with heartbeatMs := 0 })
        if s.station.inPlay then countRepeat (refreshNext t) else t
      else s) := by
  refine .ite fun _ => ?_
  have hsent : LinkKept s (handHeartbeat (s.setStart { s.start with heartbeatMs := 0 })) :=
    (handHeartbeat_linkKept _).of_before ⟨rfl, rfl⟩
  dsimp only
  split
  · exact (hsent.trans (refreshNext_linkKept (by simpa [State.divisionCount] using hd))).trans (countRepeat_linkKept _)
  · exact hsent

/-! ### Start (R136, R166, R168) -/

theorem fixIdentity_linkKept (s : State) : LinkKept s (fixIdentity s) :=
  .of_link (fun h => ⟨h.urgent, h.routine, h.outgoing, h.sending, h.receiving⟩) rfl

theorem enterUnplayed_linkKept (st : Station) (s : State) : LinkKept s (enterUnplayed st s) :=
  (handHeartbeat_linkKept _).of_before ⟨rfl, rfl⟩

theorem enterJoining_linkKept (s : State) : LinkKept s (enterJoining s) := by
  unfold enterJoining
  dsimp only
  refine .trans (LinkKept.effectiveFormed ?_) (loadLevel_linkKept 1 _)
  have hnotices := (noticesAtStartEnd_linkKept ((s.setStation .joining).setStart
    { s.start with joinMs := 0, heartbeatMs := 0 })).of_before (s := s) ⟨rfl, rfl⟩
  exact (hnotices.trans (handHeartbeat_linkKept _)).then_same (by simp)

theorem acceptConfiguration_linkKept (c : Configuration) (contacts : BitVec 384) (s : State) :
    LinkKept s (acceptConfiguration c contacts s) := .of_same ⟨rfl, rfl⟩

theorem leaveStart_linkKept (strap : Bool) (contacts : BitVec 384) (s : State) : LinkKept s (leaveStart strap contacts s) := by
  have hfixed : ∀ slots, LinkKept s (fixIdentity (noteReads slots s)) := fun slots =>
    (noteReads_linkKept slots s).trans (fixIdentity_linkKept _)
  unfold leaveStart
  dsimp only
  repeat' split
  · exact (hfixed _).trans (enterUnplayed_linkKept _ _)
  · exact ((hfixed _).trans (acceptConfiguration_linkKept _ contacts _)).trans (enterJoining_linkKept _)
  · exact ((hfixed _).trans (latch_linkKept _ _)).trans (enterUnplayed_linkKept _ _)

/-- A link at its start values is sound (R136, R137). -/
theorem linkOk_of_reset (h : t.link = State.reset.link ∧ t.refreshPointer = State.reset.refreshPointer) : linkOk t := by
  obtain ⟨-, -, -, -, -, -, -, -, hreset, -⟩ := resetIsSound
  exact LinkKept.of_same h hreset

/-! ### Changes of lines (R125 to R128) -/

theorem handPress_linkKept {f : LineFunction} (hd : s.divisionCount ≤ 8) (hf : parametersOk s.config.layout f = true) :
    LinkKept s (handPress f s) := by
  cases f with
  | stopSense d i =>
    simp only [parametersOk, Bool.and_eq_true, decide_eq_true_eq] at hf
    exact senseChange_linkKept i true (hf.1.trans_le hd) s
  | generalPiston | divisionalPiston => exact .ite fun _ => pressPiston_linkKept _ _ hd
  | generalCancel => exact .ite fun _ => (cancelAll_linkKept (s := localEvent s) hd).of_before ⟨rfl, rfl⟩
  | divisionCancel d => exact pressDivisionCancel_linkKept ((of_decide_eq_true hf).trans_le hd) s
  | levelUp => exact pressLevelUp_linkKept s
  | levelDown => exact pressLevelDown_linkKept s
  | sequencerNext => exact pressNext_linkKept hd
  | sequencerPrevious => exact pressPrevious_linkKept hd
  | tutti => exact pressTutti_linkKept s
  | crescendoProgram => exact .ite fun _ => (formAdditions_linkKept s.crescendo _).of_before ⟨rfl, rfl⟩
  | crescendoSet => exact .ite fun _ => captureStage_linkKept s
  | consoleKey => exact judgeConsole_linkKept s
  | encoderIndex => exact indexEdge_linkKept s
  | set | protect | faultAcknowledge | unused | protectOverride | encoderA | encoderB => exact .of_same (by simp [handPress])

theorem handRelease_linkKept {f : LineFunction} (hd : s.divisionCount ≤ 8) (hf : parametersOk s.config.layout f = true) :
    LinkKept s (handRelease f s) := by
  cases f with
  | stopSense d i =>
    simp only [parametersOk, Bool.and_eq_true, decide_eq_true_eq] at hf
    exact senseChange_linkKept i false (hf.1.trans_le hd) s
  | consoleKey => exact judgeConsole_linkKept s
  | _ => exact .of_same (by simp [handRelease])

/-- A change that a line of the table hands on (R123, R125). -/
theorem handChange_linkKept {n : Nat} (v : Bool) (hc : configured s) : LinkKept s (handChange (s.functionOfLine n) v s) := by
  have hd := divisionCount_le s hc
  have hf := configured_parameters hc n
  refine .ite fun _ => ?_
  split
  · exact handPress_linkKept hd hf
  · exact handRelease_linkKept hd hf

theorem lineEvent_linkKept (carries : LineFunction → Bool) (n : Nat) (v : Bool) (hc : configured s) :
    LinkKept s (lineEvent carries n v s) :=
  .ite fun _ => (handChange_linkKept (s := qualify n v s) (n := n) v hc).of_before (by simp)

theorem handLines_linkKept (ns : List Nat) (hc : configured s) : LinkKept s (ns.foldl handLine s) := by
  induction ns generalizing s with
  | nil => exact .refl s
  | cons n ns ih => exact (handChange_linkKept _ hc).trans (ih (handChange_configured _ _ hc))

theorem groupSample_linkKept (m : Nat) (contacts : Byte) (hc : configured s) :
    LinkKept s
      (if s.cfg.isSome ∧ m < 48 then
        let t := (s.changedLines m contacts).foldl handLine (sampleLines m contacts s)
        if s.groupHasTrack m then handPair t else t
      else s) := by
  refine .ite fun _ => ?_
  have hlines : LinkKept s ((s.changedLines m contacts).foldl handLine (sampleLines m contacts s)) :=
    (handLines_linkKept (s := sampleLines m contacts s) _ hc).of_before (by simp)
  dsimp only
  split
  · exact hlines.trans (judgePair_linkKept _ _ _)
  · exact hlines

/-! ### The supply (R156, R157) -/

theorem compareSupply_linkKept (mv : Nat) (s : State) : LinkKept s (compareSupply mv s) := by
  have henter1 : ∀ u, LinkKept u (enterLow1 u) := fun u => by
    unfold enterLow1
    split
    · exact .refl u
    · exact (latch_linkKept _ _).of_before ⟨rfl, rfl⟩
  have henter2 : ∀ u, LinkKept u (enterLow2 u) := fun u => by
    unfold enterLow2
    split
    · exact .refl u
    · refine .then_same (t := latch .supplyLow2 (u.setSupply { u.supply with low2 := true })) ?_ (by simp)
      exact (latch_linkKept _ _).of_before ⟨rfl, rfl⟩
  have hrelease2 : ∀ u, LinkKept u (releaseLow2 u) := fun u => .of_same (by simp)
  have hrelease1 : ∀ u, LinkKept u (releaseLow1 u) := fun u => .of_same (by simp)
  exact (((LinkKept.ite fun _ => henter1 s).trans (.ite fun _ => henter2 _)).trans (.ite fun _ => hrelease2 _)).trans
    (.ite fun _ => hrelease1 _)

/-! ### Received frames (R134, R143 to R152) -/

/-- The end of a frame that the station received leaves the line busy (R134). -/
theorem frameEnded_linkKept (hr : s.receives = true) : LinkKept s (frameEnded s) :=
  .of_link (fun h => h.busied (h.outgoing_none ((receives_iff s).1 hr).2.2)) rfl

theorem clash_linkKept (s : State) : LinkKept s (clash s) :=
  .trans (t := s.setLink { s.link with listenOnly := true })
    (.of_link (fun h => ⟨h.urgent, h.routine, h.outgoing, h.sending, h.receiving⟩) rfl) (latch_linkKept .linkClash _)

/-- A report of the Peer Table after its records have changed (R149, R151). -/
theorem peersReported_linkKept (b : Bool) (k : FaultKind) (v : List (Option Peer)) (s : State) :
    LinkKept s (latchIf b k (s.setPeers v)) := (latchIf_linkKept b k (s.setPeers v)).of_before ⟨rfl, rfl⟩

theorem reportArrival_linkKept (hd : s.divisionCount ≤ 8) : LinkKept s (reportArrival s) :=
  (refreshBurst_linkKept hd).trans (handRepeat_linkKept _)

theorem takeHeartbeat_linkKept (origin : Nat) (h : HeartbeatContent) (hd : s.divisionCount ≤ 8) :
    LinkKept s (takeHeartbeat origin h s) := by
  unfold takeHeartbeat matchedHeartbeat unknownHeartbeat
  dsimp only
  repeat' split
  · exact ((peersReported_linkKept _ _ _ s).trans (reportArrival_linkKept (by simpa [State.divisionCount] using hd))).effectiveFormed
  · exact (peersReported_linkKept _ _ _ s).effectiveFormed
  · exact .refl s
  · rename_i n _
    have harrival := reportArrival_linkKept (s := s.setPeers (s.peers.set n (some (newPeer origin h)))) hd
    exact (harrival.of_before ⟨rfl, rfl⟩).effectiveFormed
  · exact latch_linkKept _ s
  · exact .refl s

theorem serviceRead_linkKept (slot : Nat) (s : State) : LinkKept s (serviceRead slot s) := by
  unfold serviceRead
  repeat' split
  · exact reply_linkKept _ _ _ _ s
  · exact reply_linkKept _ _ _ _ s
  · exact (latch_linkKept _ s).trans (reply_linkKept _ _ _ _ _)

theorem serviceWrite_linkKept (request limit slot : Nat) (content : Content) (s : State) :
    LinkKept s (serviceWrite request limit slot content s) := by
  unfold serviceWrite
  repeat' split
  · exact reply_linkKept _ _ _ _ s
  · exact .of_same (by simp [writeRequest_frame ‹_›])
  · exact reply_linkKept _ _ _ _ s
  · exact reply_linkKept _ _ _ _ s

theorem serviceClear_linkKept (s : State) : LinkKept s (serviceClear s) := by
  unfold serviceClear
  dsimp only
  have hread : LinkKept s (if s.memory.clear.isNone then noteReads [1, 30, 31] s else s) := .ite fun _ => noteReads_linkKept _ s
  generalize (if s.memory.clear.isNone then noteReads [1, 30, 31] s else s) = u at hread ⊢
  repeat' split
  · exact .trans (hread.then_same (by simp)) (reply_linkKept _ _ _ _ (beginWrite _))
  · exact hread.trans (reply_linkKept _ _ _ _ u)
  · exact reply_linkKept _ _ _ _ s

theorem dispatch_linkKept (origin : Nat) (f : Frame) (hd : s.divisionCount ≤ 8) : LinkKept s (dispatch origin f s) := by
  cases f with
  | heartbeat h => exact takeHeartbeat_linkKept origin h hd
  | configurationRead target slot => exact .ite fun _ => serviceRead_linkKept slot s
  | configurationWrite | slotWrite => exact .ite fun _ => serviceWrite_linkKept _ _ _ _ s
  | memoryClear => exact .ite fun _ => serviceClear_linkKept s
  | restart => exact .ite fun _ => enterRestarting_linkKept _ s
  | _ => exact .of_same (by simp [dispatch])

theorem receive_linkKept (origin : Nat) (f : Frame) (hd : s.divisionCount ≤ 8) : LinkKept s (receive origin f s) := by
  refine .ite fun hr => (frameEnded_linkKept hr).trans ?_
  dsimp only
  repeat' split
  · exact clash_linkKept _
  · exact dispatch_linkKept (s := frameEnded s) origin f hd
  · exact .refl _

/-- A frame that R134 discards; one cut short by an idle leaves the line idle. -/
theorem discard_linkKept (framing : Option FramingFault) (s : State) : LinkKept s (Machine.discard framing s) := by
  refine .ite fun hr => ?_
  have hlisten := ((receives_iff s).1 hr).2.2
  dsimp only
  split
  · exact .of_link (fun h => (h.busied (h.outgoing_none hlisten)).idled (h.outgoing_none hlisten)) rfl
  all_goals exact frameEnded_linkKept hr

/-! ### The line's commands (R133, R140 to R142) -/

theorem lineIdle_linkKept (s : State) :
    LinkKept s (if s.station.onLink && !s.link.idle && s.link.outgoing.isNone then s.setLink s.link.idled else s) :=
  .ite fun hline => .of_link (fun h => h.idled (by simp_all)) rfl

theorem lineBusy_linkKept (s : State) :
    LinkKept s (if s.station.onLink && s.link.idle then s.setLink (s.link.busied true) else s) :=
  .ite fun hline => .of_link (fun h => h.busied (h.outgoing_none (.inl (by simp_all)))) rfl

/-- A slot that begins is counted, or the head of a queue is sent in it (R140, R141). -/
theorem sendBegin_linkKept {k : Nat} (h : exec (.sendBegin k) s = .next t) : LinkKept s t := by
  obtain rfl := Host.Outcome.next.inj h
  refine .ite fun _ => ?_
  split
  · exact .of_link (fun h => h.begun 0 none) rfl
  · exact .of_link (fun h => ⟨h.urgent, h.routine, h.outgoing, h.sending, h.receiving⟩) rfl

theorem sendComplete_linkKept (h : exec .sendComplete s = .next t) : LinkKept s t := by
  obtain rfl := Host.Outcome.next.inj h
  refine .ite fun hsends => .of_link (fun h => ?_) rfl
  have hnot : s.link.receiving ≠ true := fun hreceiving => by simp [(h.receiving hreceiving).2.1] at hsends
  exact ⟨h.urgent, h.routine, by simp, by simp, fun hreceiving => absurd hreceiving hnot⟩

theorem sendAbort_linkKept (h : exec .sendAbort s = .next t) : LinkKept s t := by
  obtain rfl := Host.Outcome.next.inj h
  split
  · exact .of_link (fun h => h.aborted ‹_›) rfl
  · exact .refl s

/-! ### What every step keeps -/

/-- Every command of a configured station keeps the link's law. -/
theorem exec_linkKept {c : Instr} (hc : configured s) (h : exec c s = .next t) : LinkKept s t := by
  have next : ∀ {u : State}, exec c s = .next u → LinkKept s u → LinkKept s t := fun hu hP =>
    Host.Outcome.next.inj (hu.symm.trans h) ▸ hP
  have hd : s.divisionCount ≤ 8 := divisionCount_le s hc
  cases c with
  | powerOn | startAfterRestarting => exact next rfl (.ite fun _ _ => linkOk_of_reset ⟨rfl, rfl⟩)
  | lossOfPower torn =>
    refine next rfl ?_
    split
    · exact .refl s
    · exact fun _ => linkOk_of_reset ⟨rfl, rfl⟩
  | configurationCheck contacts =>
    refine next rfl (.ite fun _ => ?_)
    split
    · exact leaveStart_linkKept _ contacts s
    · exact .refl s
  | restartLinePress =>
    refine next rfl ?_
    split
    · exact .refl s
    · exact (enterRestarting_linkKept _ _).of_before (by simp)
  | fixedLineSample restart strap =>
    refine next rfl ?_
    dsimp only
    repeat' split
    · exact .refl s
    · exact (enterRestarting_linkKept _ _).of_before (by simp)
    · exact .of_same (by simp)
  | stopSenseChange | generalPiston | divisionalPiston | setPress | setRelease | generalCancel | divisionCancelPress
  | divisionCancelRelease | levelUp | levelDown | protect | sequencerNext | sequencerPrevious | tutti | crescendoProgram
  | crescendoSet | lineRelease | consoleKey | faultAcknowledge => exact next rfl (lineEvent_linkKept _ _ _ hc)
  | indexEdge =>
    refine next rfl ?_
    split
    · exact lineEvent_linkKept _ _ _ hc
    · exact .refl s
  | encoderHandover a b => exact next rfl (.ite fun _ => (judgePair_linkKept a b _).of_before (by simp))
  | groupSample m contacts => exact next rfl (groupSample_linkKept m contacts hc)
  | low1Entry | low1Release | low2Entry | low2Release => exact next rfl (.ite fun _ => compareSupply_linkKept _ s)
  | pulseEnd | peerSilent =>
    simp only [exec, execPulseEnd, execPeerSilent] at h
    repeat' split at h
    all_goals cases h
    all_goals exact .of_same (by simp)
  | settleEnd d i =>
    simp only [exec, execSettleEnd] at h
    repeat' split at h
    all_goals cases h
    · exact (latchIf_linkKept _ .stopStuck _).of_before (by simp)
    all_goals exact .refl s
  | peerAbsent n =>
    simp only [exec, execPeerAbsent] at h
    repeat' split at h
    all_goals cases h
    · exact (peersReported_linkKept _ .peerLost _ s).effectiveFormed
    all_goals exact .refl s
  | writeReadback found =>
    simp only [exec, execWriteReadback] at h
    repeat' split at h
    all_goals cases h
    · exact .refl s
    · exact judgeReadback_linkKept _ _ _ _ s
  | retentionRefreshWrite =>
    simp only [exec, execRetentionRefreshWrite] at h
    repeat' split at h
    all_goals cases h
    · exact refreshWith_linkKept _ s
    · exact .refl s
  | heartbeatPeriod => exact next rfl (heartbeatPeriod_linkKept hd)
  | joinEnd => exact next rfl (joinEnd_linkKept hd)
  | registrationChange | registrationRefresh | crescendo | crescendoRepeatReceived | heartbeat | faultNoticeReceived
  | serviceReplyReceived | configurationRead | configurationWrite | slotWrite | memoryClear | restart =>
    exact next rfl (receive_linkKept _ _ hd)
  | numberClash => exact next rfl (.ite fun hr => (frameEnded_linkKept hr).trans (clash_linkKept _))
  | frameDiscarded framing bytes =>
    refine next rfl ?_
    split
    · exact receive_linkKept _ _ hd
    · exact discard_linkKept framing s
  | lineIdle => exact next rfl (lineIdle_linkKept s)
  | lineBusy => exact next rfl (lineBusy_linkKept s)
  | sendBegin k => exact sendBegin_linkKept h
  | sendComplete => exact sendComplete_linkKept h
  | sendAbort => exact sendAbort_linkKept h
  | idleReady => exact next rfl (.ite fun _ => .of_same ⟨rfl, rfl⟩)
  | lampAnswerEnd l => exact next rfl (.of_same ⟨rfl, rfl⟩)

theorem step_linkKept (hc : configured s) (h : step s = .next t) : LinkKept s t := by
  unfold step at h
  split at h
  · rename_i c rest _
    exact exec_linkKept (s := s.setPending rest) hc h
  · obtain rfl := Host.Outcome.next.inj h
    unfold tick
    split
    · exact .refl s
    · exact .of_same ⟨rfl, rfl⟩

end LinkKept

/-- Settles O12: a sound link holds no more frames than its queues have keys, and every step keeps it sound. -/
theorem stepKeepsTheTransmitQueues : Obligations.StepKeepsTheTransmitQueues := by
  unfold Obligations.StepKeepsTheTransmitQueues
  intro s t hc hs h
  have ht := step_linkKept hc h hs
  obtain ⟨hlaw, -⟩ := linkOk_iff.1 ht
  exact ⟨ht, hlaw.urgent.length_le fun _ => frameKey_mem_urgentKeys, hlaw.routine.length_le fun _ => frameKey_mem_routineKeys⟩

end Sys2Proof.Proofs
end
section
/-!
PROOFS. The statement about the line's commands: an idle and a busy line, the slots, and the end of a frame sent whole or aborted.
-/

namespace Sys2Proof.Proofs

open Sys2Proof Sys2Proof.Machine Sys2Proof.Safety

/-! ### The transmitter (R136, R139, R140) -/

theorem onLink_iff {st : Station} : st.onLink = true ↔ st ≠ .off ∧ st ≠ .start := by
  cases st <;> simp [Station.onLink]

/-- A station contends where a frame waits, none is being sent, and it may send (R140, R143). -/
theorem contending_iff {l : Link} :
    l.transmitter = .contending ↔ l.outgoing = none ∧ (l.urgent ≠ [] ∨ l.routine ≠ []) ∧ l.listenOnly = false := by
  unfold Link.transmitter Link.hasFrame
  cases l.outgoing with
  | some f => simp
  | none => cases l.listenOnly <;> simp [or_iff_not_imp_left]

/-- The slot of the class of the frame that waits, 30 later while the station yields (R139, R142). -/
theorem slotNumber_eq (l : Link) : l.slotNumber =
    (if l.urgent ≠ [] then l.number - 1 else 15 + (l.number - 1)) + if l.yield then 30 else 0 := by
  unfold Link.slotNumber
  cases l.urgent <;> simp

/-! ### The slots (R139 to R141) -/

/-- The head of the urgent queue goes first (R141). -/
theorem takeHead_urgent {l : Link} {f : Frame} {rest : List Frame} (h : l.urgent = f :: rest) :
    l.takeHead = { l with urgent := rest, outgoing := some f } := by
  simp only [Link.takeHead, h]

/-- The head of the routine queue goes where no urgent frame waits (R141). -/
theorem takeHead_routine {l : Link} {f : Frame} {rest : List Frame} (hurgent : l.urgent = []) (h : l.routine = f :: rest) :
    l.takeHead = { l with routine := rest, outgoing := some f } := by
  simp only [Link.takeHead, hurgent, h]

/-- A slot that has come to a station that contends (R140). -/
theorem exec_sendBegin_begins {s : State} {k : Nat} {l : Link} (hs : s.station.onLink = true) (hidle : s.link.idle = true)
    (hcontends : s.link.transmitter = .contending) (hslot : s.link.slotNumber ≤ k) (hhead : s.link.takeHead = l) :
    exec (.sendBegin k) s =
      .next { s with link := { l with idle := false, receiving := false, released := 0, slotsBegun := none } } := by
  rw [exec, execSendBegin, if_pos (by rw [hs, hidle]; rfl), if_pos ⟨hcontends, hslot⟩, hhead]
  rfl

/-- A slot in which the station does not send is counted (R140). -/
theorem exec_sendBegin_waits {s : State} {k : Nat} (hs : s.station.onLink = true) (hidle : s.link.idle = true)
    (hnot : ¬ (s.link.transmitter = .contending ∧ s.link.slotNumber ≤ k)) :
    exec (.sendBegin k) s = .next { s with link := { s.link with slotsBegun := some k } } := by
  rw [exec, execSendBegin, if_pos (by rw [hs, hidle]; rfl), if_neg hnot]
  rfl

/-! ### Where the line is not seen (R136, R145; log entry 6) -/

theorem exec_lineIdle_unseen {s : State} (h : s.station.onLink = false ∨ s.link.idle = true ∨ s.link.outgoing ≠ none) :
    exec .lineIdle s = .next s := by
  rw [exec, execLineIdle, if_neg]
  rcases h with h | h | h
  all_goals simp [h]

theorem exec_lineBusy_unseen {s : State} (h : s.station.onLink = false ∨ s.link.idle = false) : exec .lineBusy s = .next s := by
  rw [exec, execLineBusy, if_neg]
  rcases h with h | h
  all_goals simp [h]

theorem exec_sendBegin_unseen {s : State} {k : Nat} (h : s.station.onLink = false ∨ s.link.idle = false) :
    exec (.sendBegin k) s = .next s := by
  rw [exec, execSendBegin, if_neg]
  rcases h with h | h
  all_goals simp [h]

/-! ### The end of a frame sent (R141, R142) -/

theorem exec_sendAbort_returned {s : State} {f : Frame} (hf : s.link.outgoing = some f) : exec .sendAbort s =
    .next { s with link := { s.link.returned f with outgoing := none, receiving := true, yield := false } } := by
  rw [exec, execSendAbort, hf]
  rfl

/-- Settles O60: line and frame ends as they are seen, the slots by whether the station contends and its slot has come, and the
commands that find the line unseen. -/
theorem lineCommandsMoveTheLink : Obligations.LineCommandsMoveTheLink := by
  unfold Obligations.LineCommandsMoveTheLink
  refine ⟨fun s hoff hstart => ?line, fun s k hoff hstart hidle hout => ?slots, fun s k => ⟨fun hs => ?_, fun hout =>
    exec_lineIdle_unseen (.inr (.inr hout)), fun hidle => exec_sendBegin_unseen (.inr hidle)⟩⟩
  case line =>
    have hs : s.station.onLink = true := onLink_iff.2 ⟨hoff, hstart⟩
    refine ⟨fun hidle hout => ?_, fun hidle => ?_, fun f hf => ⟨?_, fun hu => ?_, fun hu => ?_⟩,
      fun hidle => exec_lineIdle_unseen (.inr (.inl hidle)), fun hidle => exec_lineBusy_unseen (.inr hidle), fun hout => ⟨?_, ?_⟩⟩
    · rw [exec, execLineIdle, if_pos (by simp [hs, hidle, hout])]
      rfl
    · rw [exec, execLineBusy, if_pos (by simp [hs, hidle])]
      rfl
    · rw [exec, execSendComplete, if_pos (by simp [hf])]
      rfl
    · rw [exec_sendAbort_returned hf, Link.returned, if_pos hu]
      rfl
    · rw [exec_sendAbort_returned hf, Link.returned, if_neg (by simp [hu])]
      rfl
    · rw [exec, execSendComplete, if_neg (by simp [hout])]
    · rw [exec, execSendAbort, hout]
  case slots =>
    have hs : s.station.onLink = true := onLink_iff.2 ⟨hoff, hstart⟩
    intro slot begins waits
    have hslot : s.link.slotNumber = slot := slotNumber_eq s.link
    refine ⟨fun f rest hurgent hlisten hk => ?_, fun f rest hurgent hroutine hlisten hk => ?_, fun hwaits => ?_⟩
    · exact exec_sendBegin_begins hs hidle (contending_iff.2 ⟨hout, .inl (by simp [hurgent]), hlisten⟩) (hslot ▸ hk)
        (takeHead_urgent hurgent)
    · exact exec_sendBegin_begins hs hidle (contending_iff.2 ⟨hout, .inr (by simp [hroutine]), hlisten⟩) (hslot ▸ hk)
        (takeHead_routine hurgent hroutine)
    · refine exec_sendBegin_waits hs hidle fun ⟨hcontends, hcome⟩ => ?_
      obtain ⟨-, hframe, hlisten⟩ := contending_iff.1 hcontends
      rcases hwaits with hbefore | honly | ⟨hurgent, hroutine⟩
      · omega
      · simp [hlisten] at honly
      · simp [hurgent, hroutine] at hframe
  · have hs : s.station.onLink = false := by rcases hs with hs | hs <;> rw [hs] <;> rfl
    exact ⟨exec_lineIdle_unseen (.inl hs), exec_lineBusy_unseen (.inl hs), exec_sendBegin_unseen (.inl hs)⟩

end Sys2Proof.Proofs
end
section
/-!
PROOFS. The statements about the bytes of a frame: what each payload is read as, what R134 accepts, and the bits on the line.
-/

namespace Sys2Proof.Proofs

open Sys2Proof Sys2Proof.Machine Sys2Proof.Safety

/-! ### Numbers, sets and contents in a run of bytes (R171, R174) -/

/-- Bit i of byte k of a two-byte number. -/
theorem getLsbD_word (hi lo : Byte) {k i : Nat} (hk : k < 2) (hi8 : i < 8) :
    (hi ++ lo : BitVec 16).getLsbD (8 * k + i) = ([lo, hi].getD k 0#8).getLsbD i := by
  show (hi ++ lo : BitVec (8 + 8)).getLsbD (8 * k + i) = _
  simp only [BitVec.getLsbD_append]
  interval_cases k
  all_goals simp [hi8]

/-- Bit i of byte k of a stop-control set. -/
theorem getLsbD_stopSetOf (b0 b1 b2 b3 b4 b5 : Byte) {k i : Nat} (hk : k < 6) (hi : i < 8) :
    (stopSetOf b0 b1 b2 b3 b4 b5).getLsbD (8 * k + i) = ([b0, b1, b2, b3, b4, b5].getD k 0#8).getLsbD i := by
  show (b5 ++ b4 ++ b3 ++ b2 ++ b1 ++ b0 : BitVec (8 + 8 + 8 + 8 + 8 + 8)).getLsbD (8 * k + i) = _
  simp only [BitVec.getLsbD_append]
  interval_cases k
  all_goals simp only [List.getD_cons_zero, List.getD_cons_succ]
  all_goals grind

/-- Bit i of byte k of a content. -/
theorem getLsbD_contentOf (l : List Byte) {k i : Nat} (hk : k < 62) (hi : i < 8) :
    (contentOf l).getLsbD (8 * k + i) = (l.getD k 0#8).getLsbD i := by
  induction l generalizing k with
  | nil => simp [contentOf]
  | cons b l ih =>
    have hcons : contentOf (b :: l) = (contentOf l <<< 8) ||| Machine.placed 0 b := rfl
    rw [hcons, BitVec.getLsbD_or, getLsbD_placed]
    cases k with
    | zero => simp [hi, show i < 496 by omega]
    | succ k =>
      have hbyte : 8 * (k + 1) + i - 8 = 8 * k + i := by omega
      have habove : b.getLsbD (8 * (k + 1) + i - 8 * 0) = false := BitVec.getLsbD_of_ge b _ (by omega)
      rw [habove, Bool.and_false, Bool.or_false, BitVec.getLsbD_shiftLeft, hbyte, ih (by omega), List.getD_cons_succ]
      simp [show 8 * (k + 1) + i < 496 by omega, show ¬ 8 * (k + 1) + i < 8 by omega]

/-- Values of so many bytes that agree in the bits of each byte. -/
theorem eq_of_bytes {w n : Nat} {x y : BitVec w} (hw : w = 8 * n)
    (h : ∀ k i, k < n → i < 8 → x.getLsbD (8 * k + i) = y.getLsbD (8 * k + i)) : x = y := by
  refine BitVec.eq_of_getLsbD_eq fun j hj => ?_
  have hbyte := h (j / 8) (j % 8) (by omega) (Nat.mod_lt _ (by decide))
  rwa [Nat.div_add_mod] at hbyte

/-- A value whose bits are those of the bytes at i stands there (R171). -/
theorem standsAt_of_bits {w n i : Nat} {p : List Byte} {x : BitVec w}
    (h : ∀ k j, k < n → j < 8 → x.getLsbD (8 * k + j) = (p.getD (i + k) 0#8).getLsbD j) : standsAt p i n x := by
  intro k hk
  refine BitVec.eq_of_getLsbD_eq fun j hj => ?_
  rw [BitVec.getLsbD_extractLsb', h k j hk hj]
  simp [hj]

/-- The two-byte number at byte i as bits. -/
def wordBitsAt (p : List Byte) (i : Nat) : BitVec 16 := p.getD (i + 1) 0#8 ++ p.getD i 0#8

/-- The stop-control set at byte i. -/
def stopSetAt (p : List Byte) (i : Nat) : StopSet :=
  stopSetOf (p.getD i 0#8) (p.getD (i + 1) 0#8) (p.getD (i + 2) 0#8) (p.getD (i + 3) 0#8) (p.getD (i + 4) 0#8)
    (p.getD (i + 5) 0#8)

theorem standsAt_wordBitsAt (p : List Byte) (i : Nat) : standsAt p i 2 (wordBitsAt p i) := by
  refine standsAt_of_bits fun k j hk hj => ?_
  rw [wordBitsAt, getLsbD_word _ _ hk hj]
  interval_cases k
  all_goals rfl

theorem standsAt_stopSetAt (p : List Byte) (i : Nat) : standsAt p i 6 (stopSetAt p i) := by
  refine standsAt_of_bits fun k j hk hj => ?_
  rw [stopSetAt, getLsbD_stopSetOf _ _ _ _ _ _ hk hj]
  interval_cases k
  all_goals rfl

theorem standsAt_contentOf (p : List Byte) (i : Nat) : standsAt p i 62 (contentOf (p.drop i)) := by
  refine standsAt_of_bits fun k j hk hj => ?_
  rw [getLsbD_contentOf _ hk hj]
  simp [List.getD_eq_getElem?_getD]

/-! ### What is sent is read back (R171, R173) -/

theorem byteOf_toNat {n : Nat} (h : n < 256) : (byteOf n).toNat = n := by
  rw [byteOf, BitVec.toNat_ofNat]
  exact Nat.mod_eq_of_lt h

theorem wordOf_wordBytes {n : Nat} (h : n < 65536) : wordOf (BitVec.ofNat 8 n) (BitVec.ofNat 8 (n / 256)) = n := by
  simp only [wordOf, BitVec.toNat_ofNat]
  omega

theorem word_wordBytes (x : BitVec 16) : BitVec.ofNat 8 (x.toNat / 256) ++ BitVec.setWidth 8 x = x := by
  refine eq_of_bytes (n := 2) rfl fun k i hk hi => ?_
  rw [getLsbD_word _ _ hk hi]
  interval_cases k
  · simp [hi]
  · have hshift : (x.toNat / 256).testBit i = x.toNat.testBit (i + 8) := Nat.testBit_div_two_pow (n := 8) ..
    rw [List.getD_cons_succ, List.getD_cons_zero, BitVec.getLsbD_ofNat, decide_eq_true hi, Bool.true_and, hshift,
      Nat.mul_one, Nat.add_comm]
    rfl

/-- A stop-control set is sent as its six bytes (R171). -/
theorem stopSetBytes_eq (x : StopSet) : stopSetBytes x =
    [x.extractLsb' 0 8, x.extractLsb' 8 8, x.extractLsb' 16 8, x.extractLsb' 24 8, x.extractLsb' 32 8, x.extractLsb' 40 8] := rfl

theorem stopSetOf_stopSetBytes (x : StopSet) :
    stopSetOf (x.extractLsb' 0 8) (x.extractLsb' 8 8) (x.extractLsb' 16 8) (x.extractLsb' 24 8) (x.extractLsb' 32 8)
      (x.extractLsb' 40 8) = x := by
  refine eq_of_bytes (n := 6) rfl fun k i hk hi => ?_
  rw [getLsbD_stopSetOf _ _ _ _ _ _ hk hi]
  interval_cases k
  all_goals simp [hi]

theorem stopSetsOf_stopSetBytes (l : Sets) : stopSetsOf (l.flatMap stopSetBytes) = some l := by
  induction l with
  | nil => rfl
  | cons x l ih => simp [stopSetBytes_eq, stopSetsOf, ih, stopSetOf_stopSetBytes]

theorem contentOf_bytes (c : Content) : contentOf (Content.bytes c) = c := by
  refine eq_of_bytes (n := 62) rfl fun k i hk hi => ?_
  rw [getLsbD_contentOf _ hk hi]
  simp [Content.bytes, Content.byte, hk, hi]

@[simp] theorem length_contentBytes (c : Content) : (Content.bytes c).length = 62 := by simp [Content.bytes]

theorem readRegistration_sent {d : Nat} {stamp : Stamp} {x : StopSet} {make : Nat → Stamp → StopSet → Frame} (hd : d ≤ 7)
    (ho : stamp.origin ≤ 15) : readRegistration (registrationBytes d stamp x) make = some (make d stamp x) := by
  obtain ⟨era, origin⟩ := stamp
  simp [registrationBytes, wordBytes, stopSetBytes_eq, readRegistration, stopSetOf_stopSetBytes, word_wordBytes,
    byteOf_toNat (show d < 256 by omega), byteOf_toNat (show origin < 256 from Nat.lt_of_le_of_lt ho (by decide))]

theorem readCrescendo_sent {c : CrescendoContent} {make : CrescendoContent → Frame} (h : crescendoFieldsOk c = true) :
    readCrescendo (crescendoBytes c) make = some (make c) := by
  obtain ⟨program, stage, tutti, additions⟩ := c
  simp only [crescendoFieldsOk, Bool.and_eq_true, decide_eq_true_eq] at h
  cases tutti
  all_goals simp [crescendoBytes, readCrescendo, stopSetsOf_stopSetBytes, byteOf_toNat (show program < 256 by omega),
      byteOf_toNat (show stage < 256 by omega), byteOf_toNat]

theorem startFlag_flagsByte (b : Bool) (c : StartCause) : (byteOf (b.toNat + 16 * causeCode c))[0] = b := by
  cases b <;> cases c <;> decide

theorem readHeartbeat_sent {h : HeartbeatContent} (hok : fieldsOk (.heartbeat h) = true) :
    readHeartbeat (heartbeatBytes h) = some (.heartbeat h) := by
  obtain ⟨kind, state, startFlag, cause, sequence, summary, progress⟩ := h
  simp only [fieldsOk, Bool.and_eq_true, decide_eq_true_eq] at hok
  obtain ⟨⟨hkind, hsequence⟩, hprogress⟩ := hok
  have hstate : stateOfCode (byteOf (stateCode state)).toNat = some state := by cases state <;> rfl
  have hcause : causeOfCode ((byteOf (startFlag.toNat + 16 * causeCode cause)).toNat / 16 % 4) = some cause := by
    cases startFlag <;> cases cause <;> rfl
  have hnumbers := And.intro (byteOf_toNat (show kind < 256 by omega)) (byteOf_toNat (show sequence < 256 by omega))
  cases progress with
  | none => simp [heartbeatBytes, wordBytes, readHeartbeat, hstate, hcause, startFlag_flagsByte, hnumbers, word_wordBytes]
  | some p =>
    obtain ⟨done, total⟩ := p
    simp only [Option.all_some, Bool.and_eq_true, decide_eq_true_eq] at hprogress
    simp [heartbeatBytes, wordBytes, readHeartbeat, hstate, hcause, startFlag_flagsByte, hnumbers, word_wordBytes,
      wordOf_wordBytes (show done < 65536 by omega), wordOf_wordBytes (show total < 65536 by omega)]

theorem readReply_sent {request slot : Nat} {result : ReplyResult} {content : Option Content}
    (h : fieldsOk (.serviceReply request slot result content) = true) :
    readReply (payloadBytes (.serviceReply request slot result content)) = some (.serviceReply request slot result content) := by
  simp only [fieldsOk, Bool.and_eq_true, decide_eq_true_eq] at h
  have hresult : resultOfCode (byteOf (resultCode result)).toNat = some result := by cases result <;> rfl
  have hrequest := byteOf_toNat (show request < 256 by omega)
  have hslot := wordOf_wordBytes (show slot < 65536 by omega)
  cases content with
  | none => simp [payloadBytes, wordBytes, readReply, hresult, hrequest, hslot]
  | some c => simp [payloadBytes, wordBytes, readReply, hresult, hrequest, hslot, contentOf_bytes]

theorem readSlotContent_sent {target slot : Nat} {c : Content} {make : Nat → Nat → Content → Frame} (ht : target ≤ 15)
    (hs : slot ≤ 65535) :
    readSlotContent (byteOf target :: wordBytes slot ++ Content.bytes c) make = some (make target slot c) := by
  simp [readSlotContent, wordBytes, byteOf_toNat (show target < 256 by omega), wordOf_wordBytes (show slot < 65536 by omega),
    contentOf_bytes]

/-- The payload of each kind is read back as the frame it was formed from (Tables 12-2, 12-3). -/
theorem readPayload_sent {f : Frame} (h : fieldsOk f = true) : readPayload (frameKind f) (payloadBytes f) = some f := by
  cases f with
  | registrationChange | registrationRefresh =>
    simp only [fieldsOk, Bool.and_eq_true, decide_eq_true_eq] at h
    exact readRegistration_sent h.1.1 h.2
  | crescendo | crescendoRepeat => exact readCrescendo_sent h
  | heartbeat => exact readHeartbeat_sent h
  | faultNotice k => cases k <;> rfl
  | serviceReply => exact readReply_sent h
  | configurationRead target slot =>
    simp only [fieldsOk, Bool.and_eq_true, decide_eq_true_eq] at h
    simp [readPayload, frameKind, payloadBytes, wordBytes, byteOf_toNat (show target < 256 by omega),
      wordOf_wordBytes (show slot < 65536 by omega)]
  | configurationWrite | slotWrite =>
    simp only [fieldsOk, Bool.and_eq_true, decide_eq_true_eq] at h
    exact readSlotContent_sent h.1.2 h.2
  | memoryClear target | restart target =>
    simp only [fieldsOk, Bool.and_eq_true, decide_eq_true_eq] at h
    simp [readPayload, frameKind, payloadBytes, byteOf_toNat (show target < 256 by omega)]

/-! ### What each payload is read as (Tables 12-2, 12-3) -/

theorem readRegistration_eq (p : List Byte) (make : Nat → Stamp → StopSet → Frame) : readRegistration p make =
    if p.length = 10 then some (make (byteAt p 0) { era := wordBitsAt p 1, origin := byteAt p 3 } (stopSetAt p 4)) else none := by
  unfold readRegistration
  split
  · rfl
  · rename_i hnot
    rw [if_neg]
    intro hlength
    match p, hlength with
    | [d, e0, e1, o, b0, b1, b2, b3, b4, b5], _ => exact hnot _ _ _ _ _ _ _ _ _ _ rfl

/-- Whole sets and nothing behind them. -/
theorem stopSetsOf_eq : ∀ l : List Byte, stopSetsOf l =
    if l.length % 6 = 0 then some ((List.range (l.length / 6)).map fun d => stopSetAt l (6 * d)) else none
  | [] => rfl
  | [_] | [_, _] | [_, _, _] | [_, _, _, _] | [_, _, _, _, _] => rfl
  | b0 :: b1 :: b2 :: b3 :: b4 :: b5 :: rest => by
    have hlength : (b0 :: b1 :: b2 :: b3 :: b4 :: b5 :: rest).length = rest.length + 6 := rfl
    have hset : ∀ d, stopSetAt (b0 :: b1 :: b2 :: b3 :: b4 :: b5 :: rest) (6 * (d + 1)) = stopSetAt rest (6 * d) := fun d => rfl
    rw [stopSetsOf, stopSetsOf_eq rest, hlength, Nat.add_mod_right, Nat.add_div_right _ (by decide), List.range_succ_eq_map]
    split
    · simp only [Option.map_some, List.map_cons, List.map_map, Function.comp_def, Nat.succ_eq_add_one, hset]
      rfl
    · rfl

theorem readCrescendo_eq (p : List Byte) (make : CrescendoContent → Frame) : readCrescendo p make =
    if 3 ≤ p.length ∧ byteAt p 2 ≤ 1 ∧ (p.length - 3) % 6 = 0 then
      some (make {
        program := byteAt p 0
        stage := byteAt p 1
        tutti := byteAt p 2 == 1
        additions := (List.range ((p.length - 3) / 6)).map fun d => stopSetAt p (3 + 6 * d) })
    else none := by
  match p with
  | [] | [_] | [_, _] => rfl
  | program :: stage :: tutti :: rest =>
    have hset : ∀ d, stopSetAt (program :: stage :: tutti :: rest) (3 + 6 * d) = stopSetAt rest (6 * d) := fun d => by
      rw [Nat.add_comm]
      rfl
    simp only [readCrescendo, stopSetsOf_eq, hset]
    by_cases ht : tutti.toNat ≤ 1 <;> by_cases hr : rest.length % 6 = 0 <;> simp [ht, hr, byteAt]

theorem readHeartbeat_eq (p : List Byte) : readHeartbeat p =
    if p.length = 6 ∨ p.length = 10 then
      (stateOfCode (byteAt p 1)).bind fun state => (causeOfCode (byteAt p 2 / 16 % 4)).map fun cause =>
        .heartbeat {
          kind := byteAt p 0
          state := state
          startFlag := (p.getD 2 0#8).getLsbD 0
          cause := cause
          sequence := byteAt p 3
          summary := wordBitsAt p 4
          progress := if p.length = 10 then some (wordAt p 6, wordAt p 8) else none }
    else none := by
  match p with
  | [] | [_] | [_, _] | [_, _, _] | [_, _, _, _] | [_, _, _, _, _] => rfl
  | kind :: state :: flags :: sequence :: f0 :: f1 :: rest =>
    cases hs : stateOfCode state.toNat <;> cases hc : causeOfCode (flags.toNat / 16 % 4)
    case some.some st cause =>
      match rest with
      | [] | [a0, a1, b0, b1] => simp [readHeartbeat, byteAt, hs, hc, wordBitsAt, wordAt, wordOf]
      | [_] | [_, _] | [_, _, _] => simp [readHeartbeat, hs, hc]
      | _ :: _ :: _ :: _ :: _ :: rest => simp [readHeartbeat, hs, hc]
    all_goals simp [readHeartbeat, byteAt, hs, hc]

theorem readReply_eq (p : List Byte) : readReply p =
    (resultOfCode (byteAt p 3)).bind fun result =>
      if p.length = 4 then some (.serviceReply (byteAt p 0) (wordAt p 1) result none)
      else if p.length = 66 then some (.serviceReply (byteAt p 0) (wordAt p 1) result (some (contentOf (p.drop 4))))
      else none := by
  match p with
  | [] | [_] | [_, _] | [_, _, _] => rfl
  | request :: s0 :: s1 :: result :: rest => simp [readReply, byteAt, wordAt, wordOf]

theorem readSlotContent_eq (p : List Byte) (make : Nat → Nat → Content → Frame) : readSlotContent p make =
    if p.length = 65 then some (make (byteAt p 0) (wordAt p 1) (contentOf (p.drop 3))) else none := by
  match p with
  | [] | [_] | [_, _] => rfl
  | target :: s0 :: s1 :: rest => simp [readSlotContent, byteAt, wordAt, wordOf]

end Sys2Proof.Proofs
end
section
/-!
PROOFS. A payload and the frame read from it: the fields stand where Table 12-3 puts them, and R134 accepts the payload exactly where
the frame's fields are good.
-/

namespace Sys2Proof.Proofs

open Sys2Proof Sys2Proof.Machine Sys2Proof.Safety

/-! ### The fields read stand in the payload (Table 12-3) -/

section
variable {p : List Byte} {f : Frame}

theorem readRegistration_laidOut {make : Nat → Stamp → StopSet → Frame} (h : readRegistration p make = some f) :
    ∃ d stamp x, f = make d stamp x ∧ registrationIn p d stamp x := by
  rw [readRegistration_eq, Option.ite_none_right_eq_some] at h
  exact ⟨_, _, _, (Option.some.inj h.2).symm, rfl, standsAt_wordBitsAt p 1, rfl, standsAt_stopSetAt p 4⟩

theorem readCrescendo_laidOut {make : CrescendoContent → Frame} (h : readCrescendo p make = some f) :
    ∃ c, f = make c ∧ crescendoIn p c := by
  rw [readCrescendo_eq, Option.ite_none_right_eq_some] at h
  obtain ⟨⟨hlong, htutti, hwhole⟩, hf⟩ := h
  refine ⟨_, (Option.some.inj hf).symm, ?_, rfl, rfl, ?_, fun d x hx => ?_⟩
  · simp only [List.length_map, List.length_range]
    omega
  · interval_cases byteAt p 2
    all_goals rfl
  · obtain ⟨_, rfl⟩ := List.getElem?_eq_some_iff.1 hx
    rw [List.getElem_map, List.getElem_range]
    exact standsAt_stopSetAt p _

theorem stateOfCode_some {n : Nat} {st : ReportedState} (h : stateOfCode n = some st) :
    [none, some ReportedState.joining, some .awake, some .dormant, some .unconfigured, some .service][n]? = some (some st) := by
  match n, h with
  | 1, h | 2, h | 3, h | 4, h | 5, h => exact congrArg some h

theorem causeOfCode_some {n : Nat} {c : StartCause} (h : causeOfCode n = some c) :
    [none, some StartCause.powerOn, some .restartLine, some .restartFrame][n]? = some (some c) := by
  match n, h with
  | 1, h | 2, h | 3, h => exact congrArg some h

theorem resultOfCode_eq (n : Nat) : resultOfCode n =
    [ReplyResult.done, .failed, .queueFull, .outOfRange, .notInService, .taken, .refused, .content, .failedCheck][n]? := by
  match n with
  | 0 | 1 | 2 | 3 | 4 | 5 | 6 | 7 | 8 | _ + 9 => rfl

theorem readHeartbeat_laidOut (h : readHeartbeat p = some f) : ∃ content, f = .heartbeat content ∧ heartbeatIn p content := by
  rw [readHeartbeat_eq, Option.ite_none_right_eq_some] at h
  obtain ⟨_, h⟩ := h
  obtain ⟨state, hstate, h⟩ := Option.bind_eq_some_iff.1 h
  obtain ⟨cause, hcause, rfl⟩ := Option.map_eq_some_iff.1 h
  refine ⟨_, rfl, rfl, stateOfCode_some hstate, ?_, causeOfCode_some hcause, rfl, standsAt_wordBitsAt p 4, rfl⟩
  exact ((Nat.toNat_testBit (byteAt p 2) 0).trans (by rw [Nat.pow_zero, Nat.div_one])).symm

theorem readReply_laidOut (h : readReply p = some f) :
    ∃ request slot result content, f = .serviceReply request slot result content ∧ replyIn p request slot result content := by
  rw [readReply_eq] at h
  obtain ⟨result, hresult, h⟩ := Option.bind_eq_some_iff.1 h
  rw [resultOfCode_eq] at hresult
  split at h
  case isTrue hlen => exact ⟨_, _, _, _, (Option.some.inj h).symm, rfl, rfl, hresult, by simp [hlen], by simp⟩
  case isFalse =>
    obtain ⟨hlen, h⟩ := Option.ite_none_right_eq_some.1 h
    exact ⟨_, _, _, _, (Option.some.inj h).symm, rfl, rfl, hresult, by simp [hlen],
      fun c hc => Option.some.inj hc ▸ standsAt_contentOf p 4⟩

theorem readSlotContent_laidOut {make : Nat → Nat → Content → Frame} (h : readSlotContent p make = some f) :
    ∃ slot c, f = make (byteAt p 0) slot c ∧ wordAt p 1 = slot ∧ standsAt p 3 62 c := by
  rw [readSlotContent_eq, Option.ite_none_right_eq_some] at h
  exact ⟨_, _, (Option.some.inj h.2).symm, rfl, standsAt_contentOf p 3⟩

theorem readPayload_faultNotice (p : List Byte) :
    readPayload 6 p = if p.length = 1 then kindsInOrder[byteAt p 0]?.map .faultNotice else none := by
  match p with
  | [] | [_] | _ :: _ :: _ => simp [readPayload, byteAt, faultOfCode, faultKinds, kindsInOrder]

theorem readPayload_configurationRead (p : List Byte) :
    readPayload 8 p = if p.length = 3 then some (.configurationRead (byteAt p 0) (wordAt p 1)) else none := by
  match p with
  | [] | [_] | [_, _] | [_, _, _] | _ :: _ :: _ :: _ :: _ => simp [readPayload, byteAt, wordAt, wordOf]

theorem readPayload_memoryClear (p : List Byte) :
    readPayload 11 p = if p.length = 1 then some (.memoryClear (byteAt p 0)) else none := by
  match p with
  | [] | [_] | _ :: _ :: _ => simp [readPayload, byteAt]

theorem readPayload_restart (p : List Byte) :
    readPayload 12 p = if p.length = 1 then some (.restart (byteAt p 0)) else none := by
  match p with
  | [] | [_] | _ :: _ :: _ => simp [readPayload, byteAt]

/-- The frame read from a payload is what the payload spells (Tables 12-1 to 12-3). -/
theorem readPayload_laidOut {k : Nat} (h : readPayload k p = some f) : laidOut k p f := by
  match k, h with
  | 1, h | 4, h =>
    obtain ⟨d, stamp, x, rfl, hin⟩ := readRegistration_laidOut h
    exact ⟨rfl, hin⟩
  | 2, h | 5, h =>
    obtain ⟨c, rfl, hin⟩ := readCrescendo_laidOut h
    exact ⟨rfl, hin⟩
  | 3, h =>
    obtain ⟨c, rfl, hin⟩ := readHeartbeat_laidOut h
    exact ⟨rfl, hin⟩
  | 6, h =>
    rw [readPayload_faultNotice, Option.ite_none_right_eq_some] at h
    obtain ⟨kind, hkind, rfl⟩ := Option.map_eq_some_iff.1 h.2
    exact ⟨rfl, hkind⟩
  | 7, h =>
    obtain ⟨request, slot, result, content, rfl, hin⟩ := readReply_laidOut h
    exact ⟨rfl, hin⟩
  | 8, h =>
    rw [readPayload_configurationRead, Option.ite_none_right_eq_some] at h
    obtain rfl := Option.some.inj h.2
    exact ⟨rfl, rfl, rfl⟩
  | 9, h | 10, h =>
    obtain ⟨slot, c, rfl, hin⟩ := readSlotContent_laidOut h
    exact ⟨rfl, rfl, hin⟩
  | 11, h =>
    rw [readPayload_memoryClear, Option.ite_none_right_eq_some] at h
    obtain rfl := Option.some.inj h.2
    exact ⟨rfl, rfl⟩
  | 12, h =>
    rw [readPayload_restart, Option.ite_none_right_eq_some] at h
    obtain rfl := Option.some.inj h.2
    exact ⟨rfl, rfl⟩

/-! ### R134 accepts a payload exactly where the frame read from it has good fields -/

theorem isSome_stateOfCode (n : Nat) : (stateOfCode n).isSome = (decide (1 ≤ n) && decide (n ≤ 5)) := by
  match n with
  | 0 | 1 | 2 | 3 | 4 | 5 => rfl
  | n + 6 => simp [stateOfCode]

theorem isSome_causeOfCode {n : Nat} (h : n < 4) : (causeOfCode n).isSome = (n != 0) := by
  interval_cases n
  all_goals rfl

theorem wordAt_le (p : List Byte) (i : Nat) : wordAt p i ≤ 65535 := by
  have hlo := (p.getD i 0#8).isLt
  have hhi := (p.getD (i + 1) 0#8).isLt
  unfold wordAt byteAt
  omega

theorem byteAt_le (p : List Byte) (i : Nat) : byteAt p i ≤ 255 := Nat.le_of_lt_succ (p.getD i 0#8).isLt

theorem readRegistration_good {make : Nat → Stamp → StopSet → Frame}
    (hmake : ∀ d stamp x, fieldsOk (make d stamp x) = (decide (d ≤ 7) && decide (1 ≤ stamp.origin) && decide (stamp.origin ≤ 15))) :
    (readRegistration p make).any fieldsOk =
      (p.length == 10 && decide (byteAt p 0 ≤ 7) && decide (1 ≤ byteAt p 3) && decide (byteAt p 3 ≤ 15)) := by
  rw [readRegistration_eq]
  split
  case isTrue hlen => simp [hlen, hmake]
  case isFalse hlen => simp [hlen]

theorem readCrescendo_good {make : CrescendoContent → Frame} (hmake : ∀ c, fieldsOk (make c) = crescendoFieldsOk c) :
    (readCrescendo p make).any fieldsOk =
      (decide (9 ≤ p.length) && decide (p.length ≤ 51) && (p.length - 3) % 6 == 0 && decide (byteAt p 0 ≤ 3)
        && decide (byteAt p 1 ≤ 60) && decide (byteAt p 2 ≤ 1)) := by
  rw [readCrescendo_eq]
  split
  case isTrue hlen =>
    obtain ⟨hlong, htutti, hwhole⟩ := hlen
    rw [Bool.eq_iff_iff]
    simp only [Option.any_some, hmake, crescendoFieldsOk, List.length_map, List.length_range, hwhole, htutti, Bool.and_eq_true,
      decide_eq_true_eq, beq_self_eq_true, and_true]
    omega
  case isFalse hlen =>
    rw [Option.any_none, Bool.eq_iff_iff]
    simp only [Bool.and_eq_true, decide_eq_true_eq, beq_iff_eq, Bool.false_eq_true, false_iff]
    omega

theorem readHeartbeat_good : (readHeartbeat p).any fieldsOk =
    ((p.length == 6 || p.length == 10) && decide (1 ≤ byteAt p 1) && decide (byteAt p 1 ≤ 5) && byteAt p 2 / 16 % 4 != 0
      && decide (byteAt p 3 ≤ 15)) := by
  rw [readHeartbeat_eq, Bool.and_assoc (_ || _), ← isSome_stateOfCode, ← isSome_causeOfCode (Nat.mod_lt _ (by decide))]
  cases stateOfCode (byteAt p 1) <;> cases causeOfCode (byteAt p 2 / 16 % 4)
  case some.some st c =>
    by_cases h10 : p.length = 10
    · simp [h10, fieldsOk, byteAt_le, wordAt_le]
    · by_cases h6 : p.length = 6
      · simp [h6, fieldsOk, byteAt_le]
      · simp [h6, h10]
  all_goals simp

theorem readReply_good : (readReply p).any fieldsOk =
    ((p.length == 4 && decide (byteAt p 3 ≤ 8) && byteAt p 3 != 7 || p.length == 66 && byteAt p 3 == 7) && decide (8 ≤ byteAt p 0)
      && decide (byteAt p 0 ≤ 12)) := by
  rw [readReply_eq]
  by_cases hcode : byteAt p 3 ≤ 8
  · by_cases h4 : p.length = 4
    · interval_cases byteAt p 3
      all_goals simp [resultOfCode, h4, fieldsOk, wordAt_le]
    · by_cases h66 : p.length = 66
      · interval_cases byteAt p 3
        all_goals simp [resultOfCode, h66, fieldsOk, wordAt_le]
      · interval_cases byteAt p 3
        all_goals simp [resultOfCode, h4, h66]
  · have hresult : resultOfCode (byteAt p 3) = none := by
      rw [resultOfCode_eq]
      exact List.getElem?_eq_none (Nat.lt_of_not_le hcode)
    simp [hresult, hcode]
    omega

theorem readSlotContent_good {make : Nat → Nat → Content → Frame}
    (hmake : ∀ t n c, fieldsOk (make t n c) = (decide (1 ≤ t) && decide (t ≤ 15) && decide (n ≤ 65535))) :
    (readSlotContent p make).any fieldsOk = (p.length == 65 && (decide (1 ≤ byteAt p 0) && decide (byteAt p 0 ≤ 15))) := by
  rw [readSlotContent_eq]
  split
  case isTrue hlen => simp [hlen, hmake, wordAt_le]
  case isFalse hlen => simp [hlen]

/-- R134's judgement of a payload is the judgement of the frame read from it. -/
theorem payloadGood_eq (k : Nat) (p : List Byte) : payloadGood k p = (readPayload k p).any fieldsOk := by
  match k with
  | 0 => rfl
  | 1 | 4 => exact (readRegistration_good fun _ _ _ => rfl).symm
  | 2 | 5 => exact (readCrescendo_good fun _ => rfl).symm
  | 3 => exact readHeartbeat_good.symm
  | 6 =>
    rw [readPayload_faultNotice]
    by_cases hk : byteAt p 0 ≤ 10
    · have hkind : (kindsInOrder[byteAt p 0]?).isSome = true := by
        interval_cases byteAt p 0
        all_goals rfl
      obtain ⟨kind, hkind⟩ := Option.isSome_iff_exists.1 hkind
      by_cases h : p.length = 1 <;> simp [payloadGood, h, hk, hkind, fieldsOk]
    · have hkind : kindsInOrder[byteAt p 0]? = none := List.getElem?_eq_none (Nat.lt_of_not_le hk)
      simp [payloadGood, hk, hkind]
  | 7 => exact readReply_good.symm
  | 8 =>
    rw [readPayload_configurationRead]
    by_cases h : p.length = 3 <;> simp [payloadGood, h, fieldsOk, wordAt_le]
  | 9 | 10 => exact (readSlotContent_good fun _ _ _ => rfl).symm
  | 11 =>
    rw [readPayload_memoryClear]
    by_cases h : p.length = 1 <;> simp [payloadGood, h, fieldsOk]
  | 12 =>
    rw [readPayload_restart]
    by_cases h : p.length = 1 <;> simp [payloadGood, h, fieldsOk]
  | _ + 13 => rfl

end

end Sys2Proof.Proofs
end
section
/-!
PROOFS. The bytes a receiver collects: R134's verdict on them, the frame sent read back, its bits on the line (O57), and the frames
that reach no block (O56).
-/

namespace Sys2Proof.Proofs

open Sys2Proof Sys2Proof.Machine Sys2Proof.Safety

/-! ### What R134 makes of the bytes a receiver collected -/

theorem wordBytes_eq_iff (x : BitVec 16) (a b : Byte) : [a, b] = wordBytes x.toNat ↔ x = b ++ a := by
  rw [wordBytes, BitVec.ofNat_toNat]
  constructor
  · intro h
    obtain ⟨rfl, rfl⟩ := by simpa using h
    exact (word_wordBytes x).symm
  · intro h
    have hlow : x.setWidth 8 = a := by
      rw [h]
      exact BitVec.setWidth_append_eq_right
    have hhigh : BitVec.ofNat 8 (x.toNat / 256) = b := by
      rw [← BitVec.append_left_inj a, ← h, ← hlow]
      exact word_wordBytes x
    rw [hlow, hhigh]

/-- Bytes of the length their length byte gives: origin, kind, length, payload and check. -/
theorem framed_of_length {bytes : List Byte} (h : bytes.length = byteAt bytes 2 + 5) :
    ∃ o k l payload a b, bytes = o :: k :: l :: (payload ++ [a, b]) ∧ payload.length = l.toNat := by
  match bytes, h with
  | o :: k :: l :: rest, h =>
    have hrest : rest.length = l.toNat + 2 := by
      have hcount : rest.length + 3 = l.toNat + 5 := h
      omega
    have hcheck : (rest.drop l.toNat).length = 2 := by rw [List.length_drop, hrest, Nat.add_sub_cancel_left]
    obtain ⟨a, b, hab⟩ := List.length_eq_two.1 hcheck
    refine ⟨o, k, l, rest.take l.toNat, a, b, ?_, ?_⟩
    · rw [← hab, List.take_append_drop]
    · rw [List.length_take, hrest]
      omega

section
variable {o k l a b : Byte} {payload : List Byte} (hl : payload.length = l.toNat)
include hl

theorem payloadOf_framed : payloadOf (o :: k :: l :: (payload ++ [a, b])) = payload := by
  show (payload ++ [a, b]).take l.toNat = payload
  rw [← hl, List.take_left]

theorem judgeFrame_framed : judgeFrame none (o :: k :: l :: (payload ++ [a, b])) =
    if l.toNat ≤ 72 ∧ crc (o :: k :: l :: payload) = b ++ a then
      (readPayload k.toNat payload).bind fun f => if acceptable o.toNat f then some (o.toNat, f) else none
    else none := by
  have hcheck : (payload ++ [a, b]).drop l.toNat = wordBytes (crc (o :: k :: l :: payload)).toNat ↔
      crc (o :: k :: l :: payload) = b ++ a := by rw [← hl, List.drop_left, wordBytes_eq_iff]
  have htake : (payload ++ [a, b]).take l.toNat = payload := by rw [← hl, List.take_left]
  have hlength : (payload ++ [a, b]).length = l.toNat + 2 := by rw [List.length_append, hl]; rfl
  simp only [judgeFrame, htake, hcheck, hlength, and_true, Config.maxPayload]
  by_cases hframe : l.toNat ≤ 72 ∧ crc (o :: k :: l :: payload) = b ++ a
  · obtain ⟨hmax, hcrc⟩ := hframe
    rw [if_pos hmax, if_pos hcrc, if_pos ⟨hmax, hcrc⟩]
    cases readPayload k.toNat payload <;> rfl
  · simp only [if_neg hframe, ite_eq_right_iff]
    exact fun hmax hcrc => absurd ⟨hmax, hcrc⟩ hframe

theorem discarded_framed : discarded none (o :: k :: l :: (payload ++ [a, b])) ↔
    72 < l.toNat ∨ o.toNat = 0 ∨ 15 < o.toNat ∨ crc (o :: k :: l :: payload) ≠ b ++ a ∨ payloadGood k.toNat payload = false := by
  have hlength : (o :: k :: l :: (payload ++ [a, b])).length = l.toNat + 5 := by
    simp only [List.length_cons, List.length_append, hl, List.length_nil]
  have hbytes : byteAt (o :: k :: l :: (payload ++ [a, b])) 0 = o.toNat ∧ byteAt (o :: k :: l :: (payload ++ [a, b])) 1 = k.toNat
      ∧ byteAt (o :: k :: l :: (payload ++ [a, b])) 2 = l.toNat := ⟨rfl, rfl, rfl⟩
  have htake : (o :: k :: l :: (payload ++ [a, b])).take (l.toNat + 3) = o :: k :: l :: payload := by
    show o :: k :: l :: (payload ++ [a, b]).take l.toNat = _
    rw [← hl, List.take_left]
  have hlow : (o :: k :: l :: (payload ++ [a, b])).getD (l.toNat + 3) 0#8 = a := by
    show (payload ++ [a, b]).getD l.toNat 0#8 = a
    simp [← hl]
  have hhigh : (o :: k :: l :: (payload ++ [a, b])).getD (l.toNat + 4) 0#8 = b := by
    show (payload ++ [a, b]).getD (l.toNat + 1) 0#8 = b
    simp [← hl]
  obtain ⟨h0, h1, h2⟩ := hbytes
  rw [discarded, hlength, h0, h1, h2, payloadOf_framed hl, show l.toNat + 5 - 2 = l.toNat + 3 from rfl,
    show l.toNat + 5 - 1 = l.toNat + 4 from rfl, htake, hlow, hhigh]
  simp

theorem judgeFrame_of_discarded (h : discarded none (o :: k :: l :: (payload ++ [a, b]))) :
    judgeFrame none (o :: k :: l :: (payload ++ [a, b])) = none := by
  rw [discarded_framed hl] at h
  rw [judgeFrame_framed hl]
  split
  case isTrue hframe =>
    obtain ⟨hmax, hcrc⟩ := hframe
    refine Option.bind_eq_none_iff.2 fun f hf => if_neg fun hok => ?_
    have hgood : payloadGood k.toNat payload = fieldsOk f := by rw [payloadGood_eq, hf, Option.any_some]
    simp only [acceptable, Bool.and_eq_true, decide_eq_true_eq] at hok
    obtain ⟨⟨hlow, hhigh⟩, hfields⟩ := hok
    simp only [hgood, hfields, hcrc, ne_eq, not_true_eq_false, Bool.true_eq_false, or_false] at h
    omega
  case isFalse => rfl

theorem judgeFrame_of_not_discarded (h : ¬ discarded none (o :: k :: l :: (payload ++ [a, b]))) :
    ∃ f, readPayload k.toNat payload = some f ∧ acceptable o.toNat f = true
      ∧ judgeFrame none (o :: k :: l :: (payload ++ [a, b])) = some (o.toNat, f) := by
  simp only [discarded_framed hl, not_or, Nat.not_lt, ne_eq, not_not, Bool.not_eq_false] at h
  obtain ⟨hmax, hzero, horigin, hcrc, hgood⟩ := h
  rw [payloadGood_eq, Option.any_eq_true] at hgood
  obtain ⟨f, hread, hfields⟩ := hgood
  have hok : acceptable o.toNat f = true := by simp [acceptable, show 1 ≤ o.toNat from Nat.pos_of_ne_zero hzero, horigin, hfields]
  exact ⟨f, hread, hok, by rw [judgeFrame_framed hl, if_pos ⟨hmax, hcrc⟩, hread, Option.bind_some, if_pos hok]⟩
end

/-- Bytes of another length, or in broken framing, are no frame. -/
theorem judgeFrame_unframed {framing : Option FramingFault} {bytes : List Byte}
    (h : framing ≠ none ∨ bytes.length ≠ byteAt bytes 2 + 5) : judgeFrame framing bytes = none := by
  cases framing with
  | some => rfl
  | none =>
    match bytes, h with
    | [], _ | [_], _ | [_, _], _ => rfl
    | o :: k :: l :: rest, h =>
      refine if_neg fun hlength => h.elim (fun hframing => hframing rfl) fun hne => hne ?_
      exact congrArg (· + 3) hlength.2

/-- Bytes that R134 discards are no frame. -/
theorem judgeFrame_discarded {framing : Option FramingFault} {bytes : List Byte} (h : discarded framing bytes) :
    judgeFrame framing bytes = none := by
  by_cases hframed : framing = none ∧ bytes.length = byteAt bytes 2 + 5
  · obtain ⟨rfl, hlength⟩ := hframed
    obtain ⟨o, k, l, payload, a, b, rfl, hl⟩ := framed_of_length hlength
    exact judgeFrame_of_discarded hl h
  · exact judgeFrame_unframed (by rwa [not_and_or] at hframed)

/-- Bytes that R134 does not discard are the frame they spell. -/
theorem judgeFrame_whole {framing : Option FramingFault} {bytes : List Byte} (h : ¬ discarded framing bytes) :
    ∃ f, acceptable (byteAt bytes 0) f = true ∧ laidOut (byteAt bytes 1) (payloadOf bytes) f
      ∧ judgeFrame framing bytes = some (byteAt bytes 0, f) := by
  have hframing : framing = none := by
    by_contra hne
    exact h (.inl hne)
  have hlength : bytes.length = byteAt bytes 2 + 5 := by
    by_contra hne
    exact h (.inr (.inr (.inr (.inl hne))))
  subst hframing
  obtain ⟨o, k, l, payload, a, b, rfl, hl⟩ := framed_of_length hlength
  obtain ⟨f, hread, hok, hjudge⟩ := judgeFrame_of_not_discarded hl h
  refine ⟨f, hok, ?_, hjudge⟩
  rw [payloadOf_framed hl]
  exact readPayload_laidOut hread

/-! ### A frame sent (R171 to R173) -/

theorem length_le_of_payloadGood {k : Nat} {p : List Byte} (h : payloadGood k p = true) : p.length ≤ 66 := by
  match k, h with
  | 1, h | 2, h | 3, h | 4, h | 5, h | 6, h | 7, h | 8, h | 9, h | 10, h | 11, h | 12, h =>
    simp only [payloadGood, Bool.and_eq_true, Bool.or_eq_true, decide_eq_true_eq, beq_iff_eq] at h
    omega

theorem frameKind_lt (f : Frame) : frameKind f < 256 := by
  cases f
  all_goals simp [frameKind]

/-- The parts of a frame as it is sent, the check behind them (R172). -/
theorem frameBytes_framed (origin : Nat) (f : Frame) : ∃ a b,
    frameBytes origin f = byteOf origin :: byteOf (frameKind f) :: byteOf (payloadBytes f).length :: (payloadBytes f ++ [a, b])
      ∧ crc (byteOf origin :: byteOf (frameKind f) :: byteOf (payloadBytes f).length :: payloadBytes f) = b ++ a :=
  ⟨_, _, rfl, (wordBytes_eq_iff _ _ _).1 rfl⟩

/-- A good frame's bytes pass R134 and read back as the frame. -/
theorem frameBytes_sent {origin : Nat} {f : Frame} (h : acceptable origin f = true) :
    byteAt (frameBytes origin f) 0 = origin ∧ laidOut (byteAt (frameBytes origin f) 1) (payloadOf (frameBytes origin f)) f
      ∧ judgeFrame none (frameBytes origin f) = some (origin, f) := by
  have hok := h
  simp only [acceptable, Bool.and_eq_true, decide_eq_true_eq] at h
  obtain ⟨⟨-, horigin⟩, hfields⟩ := h
  have hread := readPayload_sent hfields
  have hgood : payloadGood (frameKind f) (payloadBytes f) = true := by rw [payloadGood_eq, hread, Option.any_some, hfields]
  have hlength : (payloadBytes f).length ≤ 66 := length_le_of_payloadGood hgood
  have hl : (payloadBytes f).length = (byteOf (payloadBytes f).length).toNat := (byteOf_toNat (by omega)).symm
  have ho : (byteOf origin).toNat = origin := byteOf_toNat (by omega)
  have hk : (byteOf (frameKind f)).toNat = frameKind f := byteOf_toNat (frameKind_lt f)
  obtain ⟨a, b, hbytes, hcrc⟩ := frameBytes_framed origin f
  rw [hbytes]
  refine ⟨ho, ?_, ?_⟩
  · rw [payloadOf_framed hl]
    show laidOut (byteOf (frameKind f)).toNat (payloadBytes f) f
    rw [hk]
    exact readPayload_laidOut hread
  · rw [judgeFrame_framed hl, if_pos ⟨by omega, hcrc⟩, hk, hread, Option.bind_some, ho, if_pos hok]

/-! ### The check and the bits on the line (R133, R172) -/

theorem length_byteBits (b : Byte) : (byteBits b).length = 10 := by simp [byteBits]

theorem length_flatMap_byteBits (l : List Byte) : (l.flatMap byteBits).length = 10 * l.length := by
  induction l with
  | nil => rfl
  | cons b l ih => rw [List.flatMap_cons, List.length_append, ih, length_byteBits, List.length_cons, Nat.mul_succ, Nat.add_comm]

/-- Bit time j of byte k of a run of bytes. -/
theorem getElem?_flatMap_byteBits {l : List Byte} {k j : Nat} {b : Byte} (hb : l[k]? = some b) (hj : j < 10) :
    (l.flatMap byteBits)[10 * k + j]? = (byteBits b)[j]? := by
  induction l generalizing k with
  | nil => simp at hb
  | cons x l ih =>
    rw [List.flatMap_cons]
    cases k with
    | zero =>
      obtain rfl : x = b := by simpa using hb
      rw [Nat.mul_zero, Nat.zero_add, List.getElem?_append_left (by rwa [length_byteBits])]
    | succ k =>
      rw [List.getElem?_append_right (by rw [length_byteBits]; omega), length_byteBits, ← ih (k := k) (by simpa using hb)]
      congr 1
      omega

theorem crc_append (l : List Byte) (b : Byte) : crc (l ++ [b]) = crcByte (crc l) b := by
  rw [crc, List.foldl_append]
  rfl

theorem crcBit_eq (r : BitVec 16) (b : Bool) :
    crcBit r b = if r.getLsbD 15 = b then r <<< 1 else (r <<< 1) ^^^ 0x1021#16 := by
  rw [crcBit, BitVec.msb_eq_getLsbD_last]
  simp

/-- Settles O57: `frameBytes_sent` for the bytes, and bit time j of byte k stands at 10 k + j. -/
theorem framesReadBackAsSent : Obligations.FramesReadBackAsSent := by
  unfold Obligations.FramesReadBackAsSent
  refine ⟨fun origin f h => ?_, ⟨rfl, fun l b => ?_⟩, fun s h => ?_, fun s f h => ?_⟩
  · obtain ⟨horigin, hlaid, hjudge⟩ := frameBytes_sent h
    refine ⟨horigin, hlaid, fun hdiscarded => ?_, hjudge⟩
    rw [judgeFrame_discarded hdiscarded] at hjudge
    exact nomatch hjudge
  · simp only [crc_append, ← crcBit_eq]
    rfl
  · simp [State.lineBits, State.lineBytes, h]
  · have hbits : s.lineBits = (frameBytes s.link.number f).flatMap byteBits := by simp [State.lineBits, State.lineBytes, h]
    rw [hbits]
    refine ⟨length_flatMap_byteBits _, fun k b hb => ⟨?_, ?_, fun j hj => ?_⟩⟩
    · exact getElem?_flatMap_byteBits hb (j := 0) (by decide)
    · exact getElem?_flatMap_byteBits hb (j := 9) (by decide)
    · rw [Nat.add_assoc, getElem?_flatMap_byteBits hb (by omega)]
      interval_cases j
      all_goals rfl

/-! ### Frames that reach no block (R134, R143 to R145) -/

theorem discard_unheard {s : State} {framing : Option FramingFault} (h : ¬ listening s) : Machine.discard framing s = s := by
  rw [Machine.discard, if_neg fun hr => h ((receives_iff s).1 hr)]

theorem discard_heard {s : State} {framing : Option FramingFault} (h : listening s) :
    Machine.discard framing s = if framing = some .idleTooEarly then lineIdled (frameTaken s) else frameTaken s := by
  rw [Machine.discard, if_pos ((receives_iff s).2 h)]
  cases framing with
  | none => rfl
  | some fault => cases fault <;> rfl

theorem exec_frameDiscarded (framing : Option FramingFault) (bytes : List Byte) (s : State) :
    exec (.frameDiscarded framing bytes) s =
      .next (match judgeFrame framing bytes with
        | some (origin, f) => receive origin f s
        | none => Machine.discard framing s) := rfl

/-- A clash sets listen-only and reports (R143). -/
theorem clash_reported (s : State) : clash s = reported .linkClash { s with link := { s.link with listenOnly := true } } :=
  latch_reported _ .linkClash

/-- Settles O56: a frame's command is its receipt, and R134's verdict on the bytes chooses what FRAME_DISCARDED is. -/
theorem framesThatReachNoBlock : Obligations.FramesThatReachNoBlock := by
  unfold Obligations.FramesThatReachNoBlock
  refine ⟨fun s o f framing bytes h => ⟨?_, ?_, ?_⟩, fun s o k h => ?_, fun s o q n r content h => ?_, fun s o f h ha => ?_,
    fun s framing bytes h hd => ?_, fun s framing bytes hd => ?_, fun s h => ⟨?_, fun f ha => ?_⟩⟩
  · rw [exec_frameCommand, receive_unheard s h]
  · exact congrArg Host.Outcome.next (if_neg fun hr => h ((receives_iff s).1 hr))
  · rw [exec_frameDiscarded]
    cases judgeFrame framing bytes with
    | none => exact congrArg _ (discard_unheard h)
    | some v => exact congrArg _ (receive_unheard s h)
  · exact congrArg Host.Outcome.next (receive_heard s h)
  · exact congrArg Host.Outcome.next (receive_heard s h)
  · rw [exec_frameCommand, receive_discarded s h ha]
  · rw [exec_frameDiscarded, judgeFrame_discarded hd]
    exact congrArg _ (discard_heard h)
  · obtain ⟨f, hok, hlaid, hjudge⟩ := judgeFrame_whole hd
    refine ⟨f, hok, hlaid, ?_⟩
    rw [exec_frameDiscarded, hjudge, exec_frameCommand]
  · rw [← clash_reported]
    exact congrArg Host.Outcome.next (if_pos ((receives_iff s).2 h))
  · rw [exec_frameCommand, receive_own s h ha]
    exact congrArg _ (clash_reported _)

end Sys2Proof.Proofs
end
section
/-!
PROOFS. The station's number, which Start alone fixes (R136): every other operation leaves it, block by block.
-/

namespace Sys2Proof.Proofs

open Sys2Proof Sys2Proof.Machine Sys2Proof.Safety

/-! ### What an operation leaves of the station's number (R136) -/

section Number

variable (s : State)

@[simp] theorem handOverAll_number (fs : List Frame) : (handOverAll fs s).link.number = s.link.number := by
  induction fs generalizing s with
  | nil => rfl
  | cons f fs ih => exact (ih (handOver f s)).trans (handOver_number f s)

@[simp] theorem latchIf_number (b : Bool) (k : FaultKind) : (latchIf b k s).link.number = s.link.number := by
  unfold latchIf
  split <;> simp

@[simp] theorem reply_number (request slot : Nat) (result : ReplyResult) (content : Option Content) :
    (reply request slot result content s).link.number = s.link.number := handOver_number _ s

@[simp] theorem takeHead_number (l : Link) : l.takeHead.number = l.number := by
  unfold Link.takeHead
  split <;> rfl

@[simp] theorem returned_number (l : Link) (f : Frame) : (l.returned f).number = l.number := by
  unfold Link.returned
  split <;> rfl

/-! The Combination Memory Controller. -/

@[simp] theorem settlementReply_number (e : WriteEntry) (done : Bool) :
    (settlementReply e done s).link.number = s.link.number := by
  unfold settlementReply
  split <;> simp

@[simp] theorem settle_number (kind : FlightKind) (done : Bool) : (settle kind done s).link.number = s.link.number := by
  cases kind with
  | queue =>
    simp only [settle, settleEntry]
    split <;> simp
  | clear | refresh => simp [settle]

@[simp] theorem judgeReadback_number (x : SlotImage) (sound agrees : Bool) (f : Flight) :
    (judgeReadback x sound agrees f s).link.number = s.link.number := by
  simp only [judgeReadback]
  repeat' split
  all_goals simp

@[simp] theorem refreshWith_number (found : Option Content) : (refreshWith found s).link.number = s.link.number := by
  cases found <;> simp [refreshWith, advanceRetention]

/-! The Registration Image and the Motion Controller. -/

@[simp] theorem refreshNext_number : (refreshNext s).link.number = s.link.number := by simp [refreshNext]

@[simp] theorem refreshBurst_number : (refreshBurst s).link.number = s.link.number := by simp [refreshBurst]

@[simp] theorem senseChange_number (d i : Nat) (v : Bool) : (senseChange d i v s).link.number = s.link.number := by
  simp only [senseChange, handMotion]
  repeat' split
  all_goals simp

/-! The Crescendo Unit. -/

@[simp] theorem announceCrescendo_number : (announceCrescendo s).link.number = s.link.number := by simp [announceCrescendo]

@[simp] theorem handRepeat_number : (handRepeat s).link.number = s.link.number := by simp [handRepeat]

@[simp] theorem countRepeat_number : (countRepeat s).link.number = s.link.number := by
  unfold countRepeat
  split <;> simp

@[simp] theorem formAdditions_number (old : CrescendoUnit) : (formAdditions old s).link.number = s.link.number := by
  simp only [formAdditions]
  split <;> simp

@[simp] theorem evaluateStage_number : (evaluateStage s).link.number = s.link.number := by
  simp only [evaluateStage]
  repeat' split
  all_goals simp

@[simp] theorem phaseError_number : (phaseError s).link.number = s.link.number := by
  simp only [phaseError]
  repeat' split
  all_goals simp

@[simp] theorem moveCount_number (p : Nat) : (moveCount p s).link.number = s.link.number := by
  simp only [moveCount]
  split <;> simp

@[simp] theorem judgePair_number (a b : Bool) : (judgePair a b s).link.number = s.link.number := by
  simp only [judgePair]
  repeat' split
  all_goals simp

@[simp] theorem indexEdge_number : (indexEdge s).link.number = s.link.number := by
  simp only [indexEdge]
  repeat' split
  all_goals simp

@[simp] theorem setTutti_number (v : Bool) : (setTutti v s).link.number = s.link.number := by
  unfold setTutti
  split <;> simp

@[simp] theorem captureStage_number : (captureStage s).link.number = s.link.number := by
  simp only [captureStage]
  repeat' split
  · simp
  · simp [writeRequest_frame ‹_›]
  · simp

@[simp] theorem captureTutti_number : (captureTutti s).link.number = s.link.number := by
  unfold captureTutti
  repeat' split
  · simp
  · simp [writeRequest_frame ‹_›]
  · simp [writeRequest_frame ‹_›]
  · simp

/-! The Recall Unit and the Sequencer. -/

@[simp] theorem recallPiston_number (p : Piston) : (recallPiston p s).link.number = s.link.number := by
  unfold recallPiston
  split <;> simp

@[simp] theorem cancelAll_number : (cancelAll s).link.number = s.link.number := by simp [cancelAll]

@[simp] theorem loadLevel_number (n : Nat) : (loadLevel n s).link.number = s.link.number := by simp [loadLevel]

@[simp] theorem changeLevel_number (n : Nat) : (changeLevel n s).link.number = s.link.number := by simp [changeLevel]

@[simp] theorem performStep_number : (performStep s).link.number = s.link.number := by
  have htake : ∀ x : SequenceStep, (takeStep x s).link.number = s.link.number := fun x => by cases x <;> simp [takeStep]
  unfold performStep
  repeat' split
  all_goals simp [htake]

@[simp] theorem stepNext_number : (stepNext s).link.number = s.link.number := by
  unfold stepNext
  split <;> simp

@[simp] theorem stepPrevious_number : (stepPrevious s).link.number = s.link.number := by
  unfold stepPrevious
  split <;> simp

/-! The Start Controller, service requests and the supply. -/

@[simp] theorem reportArrival_number : (reportArrival s).link.number = s.link.number := by simp [reportArrival]

@[simp] theorem handHeartbeat_number : (handHeartbeat s).link.number = s.link.number := by simp [handHeartbeat]

@[simp] theorem enterAwake_number : (enterAwake s).link.number = s.link.number := by simp [enterAwake, wakeCrescendo]

@[simp] theorem judgeConsole_number : (judgeConsole s).link.number = s.link.number := by
  unfold judgeConsole
  repeat' split
  all_goals simp

@[simp] theorem applyPolicy_number : (applyPolicy s).link.number = s.link.number := by simp [applyPolicy]

@[simp] theorem clash_number : (clash s).link.number = s.link.number := by simp [clash]

@[simp] theorem serviceRead_number (n : Nat) : (serviceRead n s).link.number = s.link.number := by
  unfold serviceRead
  repeat' split
  all_goals simp

@[simp] theorem serviceWrite_number (q l n : Nat) (x : Content) : (serviceWrite q l n x s).link.number = s.link.number := by
  unfold serviceWrite
  repeat' split
  · simp
  · simp [writeRequest_frame ‹_›]
  · simp
  · simp

@[simp] theorem serviceClear_number : (serviceClear s).link.number = s.link.number := by
  unfold serviceClear
  dsimp only
  repeat' split
  all_goals simp

@[simp] theorem supplyEvent_number (crossed : Bool) (mv : Nat) : (supplyEvent crossed mv s).link.number = s.link.number := by
  have hlow1 : ∀ u : State, (enterLow1 u).link.number = u.link.number := fun u => by
    unfold enterLow1
    split <;> simp
  have hlow2 : ∀ u : State, (enterLow2 u).link.number = u.link.number := fun u => by
    unfold enterLow2
    split <;> simp
  simp only [supplyEvent, compareSupply]
  repeat' split
  all_goals simp [hlow1, hlow2]

/-! Changes of lines (R125 to R128). -/

@[simp] theorem handPress_number (f : LineFunction) : (handPress f s).link.number = s.link.number := by
  cases f with
  | generalPiston | divisionalPiston | generalCancel | divisionCancel | levelUp | levelDown | sequencerNext | sequencerPrevious
  | tutti | crescendoProgram | crescendoSet =>
    simp only [handPress, pressGeneral, pressDivisional, pressGeneralCancel, pressDivisionCancel, pressLevelUp, pressLevelDown,
      pressNext, pressPrevious, pressTutti, pressProgram, pressCrescendoSet]
    repeat' split
    all_goals simp
  | _ => simp [handPress]

@[simp] theorem handRelease_number (f : LineFunction) : (handRelease f s).link.number = s.link.number := by
  cases f <;> simp [handRelease]

@[simp] theorem handChange_number (f : LineFunction) (v : Bool) : (handChange f v s).link.number = s.link.number := by
  unfold handChange
  repeat' split
  all_goals simp

end Number

end Sys2Proof.Proofs
end

section
/-!
PROOFS. The statements about the Peer Table: what the ages of a record bring about, and that every step keeps the table sound. First
the table by itself, then each operation, then every command.
-/

namespace Sys2Proof.Proofs

open Sys2Proof Sys2Proof.Machine Sys2Proof.Safety

/-! ### The ages (R149) -/

/-- A record of presence x stands at place n of a table in play. -/
def AgesAt (s : State) (n : Nat) (x : Presence) : Prop :=
  ∃ q, s.peerAt n = some q ∧ s.station.inPlay = true ∧ q.presence = x

section Ages

variable {s : State} {n : Nat} {p : Peer}

theorem peerAt_iff : s.peerAt n = some p ↔ s.peers[n]? = some (some p) := by
  rw [State.peerAt, List.getD_eq_getElem?_getD]
  cases s.peers[n]? <;> simp

/-- The age of a Present record reaches 750 ms. -/
theorem exec_peerSilent_present (hplay : s.station.inPlay = true) (hn : s.peers[n]? = some (some p)) (hp : p.presence = .present) :
    exec (.peerSilent n) s =
      .next { s with peers := s.peers.set n (some { p with presence := .silent, age := max p.age 750 }) } := by
  simp only [exec, execPeerSilent, peerAt_iff.2 hn, hplay, hp, and_self, if_true]
  rfl

/-- The age of a Silent record reaches 2000 ms: it leaves, and a console peer is reported (R97, R149). -/
theorem exec_peerAbsent_silent (hplay : s.station.inPlay = true) (hn : s.peers[n]? = some (some p)) (hp : p.presence = .silent) :
    exec (.peerAbsent n) s =
      .next (formEffective (latchIf (p.kind == .combination) .peerLost (s.setPeers (s.peers.set n (some p.leave))))) := by
  simp only [exec, execPeerAbsent, peerAt_iff.2 hn, hplay, hp, and_self, if_true]

theorem exec_peerSilent_rests (h : ¬ AgesAt s n .present) : exec (.peerSilent n) s = .next s := by
  rw [exec, execPeerSilent]
  split
  · exact if_neg fun hages => h ⟨_, ‹_›, hages⟩
  · rfl

theorem exec_peerAbsent_rests (h : ¬ AgesAt s n .silent) : exec (.peerAbsent n) s = .next s := by
  rw [exec, execPeerAbsent]
  split
  · exact if_neg fun hages => h ⟨_, ‹_›, hages⟩
  · rfl

end Ages

/-- Settles O51: by the presence of the record, and then for a table or a place where nothing ages. -/
theorem agesSilenceAndLosePeers : Obligations.AgesSilenceAndLosePeers := by
  unfold Obligations.AgesSilenceAndLosePeers
  refine ⟨fun s n p hplay hn => ?taken, fun s n h => ?rests⟩
  case taken =>
    have hin : s.station.inPlay = true := (inPlay_iff s).2 hplay
    have hother : ∀ {x : Presence}, p.presence ≠ x → ¬ AgesAt s n x := fun hp ⟨q, hq, _, hx⟩ => by
      obtain rfl := Option.some.inj ((peerAt_iff.2 hn).symm.trans hq)
      exact hp hx
    refine ⟨exec_peerSilent_present hin hn, fun hp => exec_peerSilent_rests (hother hp), fun hp => ?_,
      fun hp => exec_peerAbsent_rests (hother hp)⟩
    refine ⟨_, exec_peerAbsent_silent hin hn hp, ?_⟩
    rw [formEffective_eq _ (by simpa using hin), latchIf_reported]
    simp only [beq_iff_eq]
    split <;> rfl
  case rests =>
    have hnone : ∀ x, ¬ AgesAt s n x := fun x ⟨q, hq, hin, _⟩ => by
      rcases h with hout | hfree
      · exact hout ((inPlay_iff s).1 hin)
      · exact Option.some_ne_none q (hq.symm.trans hfree)
    exact ⟨exec_peerSilent_rests (hnone _), exec_peerAbsent_rests (hnone _)⟩

/-! ### The Peer Table (R147) -/

/-- What no two taken records share (R147). -/
def peerKey (p : Peer) : Nat × PeerKind := (p.station, p.kind)

theorem keysDistinct_iff {l : List (Option Peer)} : (l.reduceOption.map peerKey).Nodup ↔
    ∀ (i j : Nat) (p q : Peer), l[i]? = some (some p) → l[j]? = some (some q) → peerKey p = peerKey q → i = j := by
  rw [List.Nodup, List.pairwise_map, List.reduceOption, List.pairwise_filterMap, List.pairwise_iff_getElem]
  constructor
  · intro h i j p q hp hq hkey
    obtain ⟨hi, hp⟩ := List.getElem?_eq_some_iff.1 hp
    obtain ⟨hj, hq⟩ := List.getElem?_eq_some_iff.1 hq
    rcases Nat.lt_trichotomy i j with hlt | heq | hlt
    · exact absurd hkey (h i j hi hj hlt p hp q hq)
    · exact heq
    · exact absurd hkey.symm (h j i hj hi hlt q hq p hp)
  · intro h i j hi hj hlt p hp q hq hkey
    have := h i j p q (List.getElem?_eq_some_iff.2 ⟨hi, hp⟩) (List.getElem?_eq_some_iff.2 ⟨hj, hq⟩) hkey
    omega

/-- 14 records, those taken in range, no two of one number and kind (R147). -/
structure TableSound (own : Nat) (l : List (Option Peer)) : Prop where
  length : l.length = Config.peerRecords
  records : ∀ p, some p ∈ l → peerOk own p
  distinct : ∀ (i j : Nat) (p q : Peer), l[i]? = some (some p) → l[j]? = some (some q) → peerKey p = peerKey q → i = j

/-- Where the station has not entered Joining, all records are free (R147). -/
def FreeOutOfPlay (s : State) : Prop :=
  s.station.inPlay = false → s.station ≠ .restarting → s.peers = List.replicate Config.peerRecords none

theorem peersOk_iff {s : State} : peersOk s ↔ TableSound s.link.number s.peers ∧ FreeOutOfPlay s :=
  ⟨fun ⟨hlength, hrecords, hkeys, hfree⟩ =>
      ⟨⟨hlength, fun p hp => hrecords p (List.reduceOption_mem_iff.2 hp), keysDistinct_iff.1 hkeys⟩, hfree⟩,
    fun ⟨⟨hlength, hrecords, hdistinct⟩, hfree⟩ =>
      ⟨hlength, fun p hp => hrecords p (List.reduceOption_mem_iff.1 hp), keysDistinct_iff.2 hdistinct, hfree⟩⟩

section TableSound

variable {own n : Nat} {l : List (Option Peer)} {p q : Peer}

theorem TableSound.free (own : Nat) : TableSound own (List.replicate Config.peerRecords none) where
  length := List.length_replicate
  records := fun p hp => by cases List.eq_of_mem_replicate hp
  distinct := fun i j p q hp _ _ => by cases List.eq_of_mem_replicate (List.mem_of_getElem? hp)

/-- A record written at a place keeps the table sound where no other place has its number and kind. -/
theorem TableSound.set (h : TableSound own l) (hp : peerOk own p)
    (hother : ∀ k q, k ≠ n → l[k]? = some (some q) → peerKey q ≠ peerKey p) : TableSound own (l.set n (some p)) where
  length := by rw [List.length_set, h.length]
  records := fun q hq => by
    rcases List.mem_or_eq_of_mem_set hq with hmem | heq
    · exact h.records q hmem
    · obtain rfl := Option.some.inj heq
      exact hp
  distinct := fun i j a b ha hb hkey => by
    have hset : ∀ {k c}, (l.set n (some p))[k]? = some (some c) → (k = n ∧ c = p) ∨ (k ≠ n ∧ l[k]? = some (some c)) :=
      fun {k c} hc => by
        by_cases hk : n = k
        · subst hk
          have hlt : n < l.length := by simpa using (List.getElem?_eq_some_iff.1 hc).1
          rw [List.getElem?_set_self hlt] at hc
          exact .inl ⟨rfl, (Option.some.inj (Option.some.inj hc)).symm⟩
        · exact .inr ⟨Ne.symm hk, by rwa [List.getElem?_set_ne hk] at hc⟩
    rcases hset ha, hset hb with ⟨⟨hi, hap⟩ | ⟨hi, ha⟩, ⟨hj, hbp⟩ | ⟨hj, hb⟩⟩
    · rw [hi, hj]
    · exact absurd (hkey.symm.trans (congrArg peerKey hap)) (hother j b hj hb)
    · exact absurd (hkey.trans (congrArg peerKey hbp)) (hother i a hi ha)
    · exact h.distinct i j a b ha hb hkey

/-- A record rewritten under its number and kind. -/
theorem TableSound.rewritten (h : TableSound own l) (hn : l[n]? = some (some q)) (hp : peerOk own p)
    (hkey : peerKey p = peerKey q) : TableSound own (l.set n (some p)) :=
  h.set hp fun k r hk hr hsame => hk (h.distinct k n r q hr hn (hsame.trans hkey))

/-- A record taken for a sender that has none (R148). -/
theorem TableSound.taken (h : TableSound own l) (hp : peerOk own p) (hnone : peerIndex l p.station p.kind = none) :
    TableSound own (l.set n (some p)) :=
  h.set hp fun k q _ hq hsame => by
    rw [peerIndex, List.findIdx?_eq_none_iff] at hnone
    have hdiffers := hnone _ (List.mem_of_getElem? hq)
    obtain ⟨hstation, hkind⟩ := Prod.mk.inj hsame
    simp [hstation, hkind] at hdiffers

/-- One millisecond ages the records alone (R149). -/
theorem TableSound.aged (h : TableSound own l) : TableSound own (l.map (Option.map Peer.tick)) where
  length := by rw [List.length_map, h.length]
  records := fun p hp => by
    obtain ⟨x, hx, hxp⟩ := List.mem_map.1 hp
    obtain ⟨q, rfl, rfl⟩ := Option.map_eq_some_iff.1 hxp
    exact h.records q hx
  distinct := fun i j a b ha hb hkey => by
    simp only [List.getElem?_map, Option.map_eq_some_iff] at ha hb
    obtain ⟨_, ha, p, rfl, rfl⟩ := ha
    obtain ⟨_, hb, q, rfl, rfl⟩ := hb
    exact h.distinct i j p q ha hb hkey

end TableSound

/-! ### The record a heartbeat or an age leaves (R148 to R151) -/

section Records

variable {own : Nat} {p : Peer} {h : HeartbeatContent}

theorem newPeer_ok {o : Nat} (hlow : 1 ≤ o) (hhigh : o ≤ 15) (hown : o ≠ own) (hseq : h.sequence ≤ 15) :
    peerOk own (newPeer o h) :=
  ⟨hlow, hhigh, hown, hseq, Nat.zero_le 3, Nat.zero_le 8⟩

/-- R151's judgement keeps number and kind, and its runs in their ranges (R147). -/
theorem peerJudge_sound (hp : peerOk own p) : peerKey (p.judge h) = peerKey p ∧ peerOk own (p.judge h) := by
  obtain ⟨hlow, hhigh, hown, hseq, hgap, hclean⟩ := hp
  unfold Peer.judge Peer.clean Peer.gap
  dsimp only
  repeat' split
  · exact ⟨rfl, hlow, hhigh, hown, hseq, Nat.zero_le 3, Nat.zero_le 8⟩
  · exact ⟨rfl, hlow, hhigh, hown, hseq, hgap, hclean⟩
  · exact ⟨rfl, hlow, hhigh, hown, hseq, Nat.zero_le 3, Nat.le_of_lt ‹_›⟩
  · exact ⟨rfl, hlow, hhigh, hown, hseq, Nat.zero_le 3, Nat.zero_le 8⟩
  · exact ⟨rfl, hlow, hhigh, hown, hseq, Nat.zero_le 3, hclean⟩
  · exact ⟨rfl, hlow, hhigh, hown, hseq, Nat.min_le_left 3 _, Nat.zero_le 8⟩

theorem peerRecord_sound (hp : peerOk own p) (hseq : h.sequence ≤ 15) :
    peerKey ((p.judge h).record h) = peerKey p ∧ peerOk own ((p.judge h).record h) := by
  obtain ⟨hkey, hlow, hhigh, hown, -, hgap, hclean⟩ := peerJudge_sound (h := h) hp
  exact ⟨hkey, hlow, hhigh, hown, hseq, hgap, hclean⟩

theorem leave_ok (hp : peerOk own p) : peerOk own p.leave := by
  obtain ⟨hlow, hhigh, hown, hseq, -, -⟩ := hp
  exact ⟨hlow, hhigh, hown, hseq, Nat.zero_le 3, Nat.zero_le 8⟩

end Records

/-! ### What an operation keeps of the Peer Table -/

/-- From s to t the table stays sound. -/
def PeersKept (s t : State) : Prop := peersOk s → peersOk t

section PeersKept

variable {s t u : State}

theorem PeersKept.refl (s : State) : PeersKept s s := id

theorem PeersKept.trans (h : PeersKept s t) (h' : PeersKept t u) : PeersKept s u := h' ∘ h

theorem PeersKept.ite {p : Prop} [Decidable p] (h : p → PeersKept s t) : PeersKept s (if p then t else s) := by
  split
  · exact h ‹_›
  · exact .refl s

/-- A station whose records are all free, whatever its number. -/
theorem PeersKept.of_free (h : t.peers = List.replicate Config.peerRecords none) : PeersKept s t :=
  fun _ => peersOk_iff.2 ⟨h ▸ .free _, fun _ _ => h⟩

/-- A station leaves Start with all its records free (R136, R147). -/
theorem PeersKept.of_start (hstart : s.station = .start) (h : t.peers = s.peers) : PeersKept s t := fun hs => by
  obtain ⟨-, hfree⟩ := peersOk_iff.1 hs
  have hnone := hfree (by rw [hstart]; rfl) (by simp [hstart])
  exact PeersKept.of_free (h.trans hnone) hs

/-- An event that leaves records and number, as the station moves (R165). -/
theorem PeersKept.of_moves (hmoves : StationMoves s.station t.station)
    (h : t.peers = s.peers ∧ t.link.number = s.link.number) : PeersKept s t := fun hs => by
  obtain ⟨hpeers, hnumber⟩ := h
  rcases hmoves with hsame | ⟨-, hplay⟩ | hrestarting | ⟨hstart, -⟩
  · exact peersOk_iff.2 (by simpa only [FreeOutOfPlay, hpeers, hnumber, hsame] using peersOk_iff.1 hs)
  · obtain ⟨hsound, -⟩ := peersOk_iff.1 hs
    exact peersOk_iff.2 ⟨by rwa [hpeers, hnumber], fun hout => by simp [hplay] at hout⟩
  · obtain ⟨hsound, -⟩ := peersOk_iff.1 hs
    exact peersOk_iff.2 ⟨by rwa [hpeers, hnumber], fun _ hnot => absurd hrestarting hnot⟩
  · exact PeersKept.of_start hstart hpeers hs

theorem PeersKept.of_same (h : t.station = s.station ∧ t.peers = s.peers ∧ t.link.number = s.link.number) : PeersKept s t :=
  .of_moves (.inl h.1) h.2

/-- An event of a station in play that changes its records (R147). -/
theorem PeersKept.of_table (hplay : t.station.inPlay = true) (hnumber : t.link.number = s.link.number)
    (h : TableSound s.link.number s.peers → TableSound s.link.number t.peers) : PeersKept s t := fun hs =>
  peersOk_iff.2 ⟨hnumber ▸ h (peersOk_iff.1 hs).1, fun hout => by simp [hplay] at hout⟩

/-! ### The Peer Table's own operations (R148 to R152) -/

theorem matchedHeartbeat_table (n : Nat) (p : Peer) (h : HeartbeatContent) (s : State) :
    (matchedHeartbeat n p h s).peers = s.peers.set n (some ((p.judge h).record h))
      ∧ (matchedHeartbeat n p h s).link.number = s.link.number := by
  simp only [matchedHeartbeat]
  split <;> simp

/-- A heartbeat of another station (R148, R151). -/
theorem takeHeartbeat_peersKept {o : Nat} {h : HeartbeatContent} (hlow : 1 ≤ o) (hhigh : o ≤ 15) (hown : o ≠ s.link.number)
    (hseq : h.sequence ≤ 15) : PeersKept s (takeHeartbeat o h s) := by
  refine .ite fun hplay => ?_
  split
  · split
    · rename_i n _ _ p hp
      obtain ⟨hpeers, hnumber⟩ := matchedHeartbeat_table n p h s
      refine .of_table (by simpa using hplay) hnumber fun hs => ?_
      have hn := peerAt_iff.1 hp
      obtain ⟨hkey, hok⟩ := peerRecord_sound (hs.records p (List.mem_of_getElem? hn)) hseq
      exact hpeers ▸ hs.rewritten hn hok hkey
    · exact .refl s
  · rename_i hnone
    unfold unknownHeartbeat
    split
    · refine .of_table (by simpa using hplay) (by simp) fun hs => ?_
      simpa using hs.taken (newPeer_ok hlow hhigh hown hseq) hnone
    · exact .of_same (by simp)

/-- A crescendo frame changes a record's contribution alone (R152). -/
theorem takeContribution_peersKept (o : Nat) (c : CrescendoContent) : PeersKept s (takeContribution o c s) := by
  refine .ite fun hplay => ?_
  repeat' split
  · rename_i p hp
    refine .of_table (by simpa using hplay) (by simp) fun hs => ?_
    have hn := peerAt_iff.1 hp
    simp only [formEffective_frame, State.setPeers_peers]
    exact hs.rewritten hn (hs.records p (List.mem_of_getElem? hn)) rfl
  all_goals exact .refl s

theorem peerSilent_peersKept {n : Nat} (h : exec (.peerSilent n) s = .next t) : PeersKept s t := by
  simp only [exec, execPeerSilent] at h
  repeat' split at h
  all_goals cases h
  · rename_i p hp hages
    refine .of_table hages.1 rfl fun hs => ?_
    have hn := peerAt_iff.1 hp
    exact hs.rewritten hn (hs.records p (List.mem_of_getElem? hn)) rfl
  all_goals exact .refl s

theorem peerAbsent_peersKept {n : Nat} (h : exec (.peerAbsent n) s = .next t) : PeersKept s t := by
  simp only [exec, execPeerAbsent] at h
  repeat' split at h
  all_goals cases h
  · rename_i hp hages
    refine .of_table (by simpa using hages.1) (by simp) fun hs => ?_
    have hn := peerAt_iff.1 hp
    simpa using hs.rewritten hn (leave_ok (hs.records _ (List.mem_of_getElem? hn))) rfl
  all_goals exact .refl s

/-! ### Start, received frames and changes of lines -/

theorem enterRestarting_peersKept (cause : StartCause) (s : State) : PeersKept s (enterRestarting cause s) :=
  .of_moves (enterRestarting_station cause s) (by simp)

/-- Start is left with the records as they were (R136, R147, R166). -/
theorem leaveStart_peers (strap : Bool) (contacts : BitVec 384) (s : State) : (leaveStart strap contacts s).peers = s.peers := by
  unfold leaveStart
  dsimp only
  repeat' split
  all_goals simp [enterJoining, acceptConfiguration]

theorem dispatch_peersKept {o : Nat} {f : Frame} (hok : acceptable o f = true) (hown : o ≠ s.link.number) :
    PeersKept s (dispatch o f s) := by
  cases f with
  | heartbeat h =>
    simp only [acceptable, fieldsOk, Bool.and_eq_true, decide_eq_true_eq] at hok
    obtain ⟨⟨hlow, hhigh⟩, ⟨-, hseq⟩, -⟩ := hok
    exact takeHeartbeat_peersKept hlow hhigh hown hseq
  | crescendo c | crescendoRepeat c => exact takeContribution_peersKept o c
  | restart => exact .ite fun _ => enterRestarting_peersKept _ s
  | configurationRead | configurationWrite | slotWrite | memoryClear => exact .ite fun _ => .of_same (by simp)
  | _ => exact .of_same (by simp [dispatch])

theorem frameEnded_peersKept (s : State) : PeersKept s (frameEnded s) := .of_same ⟨rfl, rfl, rfl⟩

theorem receive_peersKept (o : Nat) (f : Frame) (s : State) : PeersKept s (receive o f s) := by
  refine .ite fun _ => (frameEnded_peersKept s).trans ?_
  dsimp only
  repeat' split
  · exact .of_same (by simp)
  · exact dispatch_peersKept ‹_› ‹_›
  · exact .refl _

theorem lineEvent_peersKept (carries : LineFunction → Bool) (n : Nat) (v : Bool) (s : State) :
    PeersKept s (lineEvent carries n v s) := by
  have hnumber : (lineEvent carries n v s).link.number = s.link.number := by
    unfold lineEvent
    split <;> simp
  exact .of_moves (lineEvent_continues carries n v s).station ⟨by simp, hnumber⟩

theorem handLines_table (ns : List Nat) (s : State) :
    (ns.foldl handLine s).peers = s.peers ∧ (ns.foldl handLine s).link.number = s.link.number := by
  induction ns generalizing s with
  | nil => exact ⟨rfl, rfl⟩
  | cons n ns ih =>
    obtain ⟨hpeers, hnumber⟩ := ih (handLine s n)
    exact ⟨hpeers.trans (by simp [handLine]), hnumber.trans (by simp [handLine])⟩

theorem groupSample_peersKept {m : Nat} {contacts : Byte} (h : exec (.groupSample m contacts) s = .next t) : PeersKept s t := by
  refine .of_moves (groupSample_continues m contacts s t h).station ?_
  obtain rfl := Host.Outcome.next.inj h
  dsimp only
  repeat' split
  all_goals simp [handPair, handLines_table]

theorem joinEnd_peersKept (h : exec .joinEnd s = .next t) : PeersKept s t := by
  refine .of_moves (joinEnd_continues s t h).station ?_
  obtain rfl := Host.Outcome.next.inj h
  dsimp only
  repeat' split
  all_goals simp

theorem discard_peersKept (framing : Option FramingFault) (s : State) : PeersKept s (Machine.discard framing s) := by
  refine .ite fun _ => (frameEnded_peersKept s).trans ?_
  dsimp only
  split
  all_goals exact .of_same ⟨rfl, rfl, rfl⟩

/-! ### What every step keeps -/

/-- Every command keeps the Peer Table sound. -/
theorem exec_peersKept {c : Instr} (h : exec c s = .next t) : PeersKept s t := by
  have next : ∀ {u : State}, exec c s = .next u → PeersKept s u → PeersKept s t := fun hu hP =>
    Host.Outcome.next.inj (hu.symm.trans h) ▸ hP
  cases c with
  | powerOn | startAfterRestarting => exact next rfl (.ite fun _ => .of_free rfl)
  | lossOfPower torn =>
    refine next rfl ?_
    split
    · exact .refl s
    · exact .of_free rfl
  | configurationCheck contacts =>
    refine next rfl (.ite fun hstart => ?_)
    split
    · exact .of_start hstart (leaveStart_peers _ contacts s)
    · exact .refl s
  | restartLinePress =>
    refine next rfl ?_
    split
    · exact .refl s
    · exact .trans (.of_same (by simp)) (enterRestarting_peersKept _ (s.setScanner _))
  | fixedLineSample restart strap =>
    refine next rfl ?_
    dsimp only
    repeat' split
    · exact .refl s
    · exact .trans (.of_same (by simp)) (enterRestarting_peersKept _ (s.setScanner _))
    · exact .of_same ⟨rfl, rfl, rfl⟩
  | stopSenseChange | generalPiston | divisionalPiston | setPress | setRelease | generalCancel | divisionCancelPress
  | divisionCancelRelease | levelUp | levelDown | protect | sequencerNext | sequencerPrevious | tutti | crescendoProgram
  | crescendoSet | lineRelease | consoleKey | faultAcknowledge => exact next rfl (lineEvent_peersKept _ _ _ s)
  | indexEdge =>
    refine next rfl ?_
    split
    · exact lineEvent_peersKept _ _ _ s
    · exact .refl s
  | encoderHandover a b => exact next rfl (.ite fun _ => .of_same (by simp))
  | groupSample m contacts => exact groupSample_peersKept h
  | low1Entry | low1Release | low2Entry | low2Release => exact next rfl (.of_same (by simp))
  | pulseEnd | settleEnd | writeReadback | retentionRefreshWrite =>
    simp only [exec, execPulseEnd, execSettleEnd, execWriteReadback, execRetentionRefreshWrite] at h
    repeat' split at h
    all_goals cases h
    all_goals exact .of_same (by simp [readback, refreshSlot])
  | peerSilent n => exact peerSilent_peersKept h
  | peerAbsent n => exact peerAbsent_peersKept h
  | heartbeatPeriod =>
    refine next rfl (.ite fun _ => ?_)
    dsimp only
    split
    all_goals exact .of_same (by simp)
  | joinEnd => exact joinEnd_peersKept h
  | registrationChange | registrationRefresh | crescendo | crescendoRepeatReceived | heartbeat | faultNoticeReceived
  | serviceReplyReceived | configurationRead | configurationWrite | slotWrite | memoryClear | restart =>
    exact next rfl (receive_peersKept _ _ s)
  | numberClash => exact next rfl (.ite fun _ => (frameEnded_peersKept s).trans (.of_same (by simp)))
  | frameDiscarded framing bytes =>
    refine next rfl ?_
    split
    · exact receive_peersKept _ _ s
    · exact discard_peersKept framing s
  | sendBegin k =>
    refine next rfl (.ite fun _ => ?_)
    split
    · exact .of_same ⟨rfl, rfl, takeHead_number s.link⟩
    · exact .of_same ⟨rfl, rfl, rfl⟩
  | sendAbort =>
    refine next rfl ?_
    split
    · exact .of_same ⟨rfl, rfl, returned_number s.link _⟩
    · exact .refl s
  | lineIdle | lineBusy | sendComplete | idleReady => exact next rfl (.ite fun _ => .of_same ⟨rfl, rfl, rfl⟩)
  | lampAnswerEnd l => exact next rfl (.of_same ⟨rfl, rfl, rfl⟩)

/-- One millisecond ages the records of a station in play (R149; log entry 3). -/
theorem tick_peersKept (s : State) : PeersKept s (tick s) := by
  unfold tick
  split
  · exact .refl s
  · by_cases hplay : s.station.inPlay = true
    · exact .of_table hplay rfl fun hs => by simpa only [if_pos hplay] using hs.aged
    · exact .of_same ⟨rfl, if_neg hplay, rfl⟩

end PeersKept

/-- Settles O13: a step is a command with the rest of the queue behind it, or one millisecond, and both keep the table sound. -/
theorem stepKeepsThePeerTable : Obligations.StepKeepsThePeerTable := by
  unfold Obligations.StepKeepsThePeerTable
  intro s t _ hs h
  unfold step at h
  split at h
  · rename_i c rest _
    exact exec_peersKept (s := s.setPending rest) h hs
  · obtain rfl := Host.Outcome.next.inj h
    exact tick_peersKept s hs

end Sys2Proof.Proofs
end

section
/-!
PROOFS. The statements about the step and the queue of waiting commands, which is the model's own (log entry 24): no block names it,
so each operation hands it on as it found it.
-/

namespace Sys2Proof.Proofs

open Sys2Proof Sys2Proof.Machine Sys2Proof.Safety

/-! ### What an operation leaves of the waiting commands (log entry 24) -/

section Pending

variable (s : State)

/-! The Start Controller. -/

@[simp] theorem startState_pending (cause : StartCause) : (startState cause s).pending = s.pending := rfl

@[simp] theorem acceptConfiguration_pending (c : Configuration) (contacts : BitVec 384) :
    (acceptConfiguration c contacts s).pending = s.pending := rfl

@[simp] theorem enterJoining_pending : (enterJoining s).pending = s.pending := by simp [enterJoining]

@[simp] theorem leaveStart_pending (strap : Bool) (contacts : BitVec 384) : (leaveStart strap contacts s).pending = s.pending := by
  unfold leaveStart
  dsimp only
  repeat' split
  all_goals simp

/-! Received frames (R134, R143, R144). -/

@[simp] theorem frameEnded_pending : (frameEnded s).pending = s.pending := rfl

theorem ifTarget_pending {target : Nat} {f : State → State} (h : (f s).pending = s.pending) :
    (ifTarget target f s).pending = s.pending := by
  unfold ifTarget
  split
  · exact h
  · rfl

@[simp] theorem dispatch_pending (origin : Nat) (f : Frame) : (dispatch origin f s).pending = s.pending := by
  cases f with
  | configurationRead | configurationWrite | slotWrite | memoryClear | restart => exact ifTarget_pending s (by simp)
  | _ => simp [dispatch]

@[simp] theorem receive_pending (origin : Nat) (f : Frame) : (receive origin f s).pending = s.pending := by
  unfold receive
  dsimp only
  repeat' split
  all_goals simp

@[simp] theorem discard_pending (framing : Option FramingFault) : (Machine.discard framing s).pending = s.pending := by
  unfold Machine.discard
  dsimp only
  repeat' split
  all_goals simp

/-! Changes of lines (R125). -/

@[simp] theorem handLines_pending (ns : List Nat) : (ns.foldl handLine s).pending = s.pending := by
  induction ns generalizing s with
  | nil => rfl
  | cons n ns ih => exact (ih (handLine s n)).trans (by simp [handLine])

end Pending

/-! ### The step -/

/-- Every command that runs leaves the waiting commands as they are (log entry 24). -/
theorem exec_pending {c : Instr} {s t : State} (h : exec c s = .next t) : t.pending = s.pending := by
  have next : ∀ {u : State}, exec c s = .next u → u.pending = s.pending → t.pending = s.pending := fun hu hP =>
    Host.Outcome.next.inj (hu.symm.trans h) ▸ hP
  cases c with
  | stopSenseChange | generalPiston | divisionalPiston | setPress | setRelease | generalCancel | divisionCancelPress
  | divisionCancelRelease | levelUp | levelDown | protect | sequencerNext | sequencerPrevious | tutti | crescendoProgram
  | crescendoSet | lineRelease | consoleKey | faultAcknowledge => exact next rfl (by simp)
  | low1Entry | low1Release | low2Entry | low2Release | lampAnswerEnd => exact next rfl (by simp)
  | registrationChange | registrationRefresh | crescendo | crescendoRepeatReceived | heartbeat | faultNoticeReceived
  | serviceReplyReceived | configurationRead | configurationWrite | slotWrite | memoryClear | restart =>
    exact next rfl (receive_pending s _ _)
  | pulseEnd | settleEnd | writeReadback | retentionRefreshWrite | peerSilent | peerAbsent =>
    simp only [exec, execPulseEnd, execSettleEnd, execWriteReadback, execRetentionRefreshWrite, execPeerSilent, execPeerAbsent]
      at h
    repeat' split at h
    all_goals cases h
    all_goals simp [refreshSlot]
  | powerOn | lossOfPower | startAfterRestarting | configurationCheck | restartLinePress | indexEdge | encoderHandover | idleReady
  | numberClash | frameDiscarded | lineIdle | lineBusy | sendBegin | sendComplete | sendAbort =>
    refine next rfl ?_
    repeat' split
    all_goals simp
  | fixedLineSample | groupSample | heartbeatPeriod | joinEnd =>
    refine next rfl ?_
    dsimp only
    repeat' split
    all_goals simp

/-- Settles O3: every operation a command is made of leaves the queue, a loss of power and a start included. -/
theorem commandsLeaveTheQueueAlone : Obligations.CommandsLeaveTheQueueAlone := by
  unfold Obligations.CommandsLeaveTheQueueAlone
  exact fun _ _ _ h => exec_pending h

/-- A step with a command in front is that command with the rest waiting. -/
theorem step_cons {c : Instr} {rest : List Instr} {s : State} (h : s.pending = c :: rest) : step s = exec c (s.setPending rest) := by
  simp only [step, h]

/-- Settles O1: by the step's own case of a queue with a front. -/
theorem stepTakesTheFrontCommand : Obligations.StepTakesTheFrontCommand := by
  unfold Obligations.StepTakesTheFrontCommand
  exact fun _ _ _ h => step_cons h

end Sys2Proof.Proofs
end
